-- ==== Sys2Proof/Word.lean ====
section
/-! DEFINITION. The widths of the block: a raw byte (R10), a strap level (R11, R33), the optional 32-bit view of a packet (R43). -/

namespace Sys2Proof

/-- A raw byte: "RawByte: an 8-bit value" (R10). Every value is unsigned (00_scope.md, notation). -/
abbrev Byte := BitVec 8

/-- A logic level on the MODE strap pin, 0 or 1 (R11 STRAP_MIDI_LEVEL, R33). -/
abbrev Level := BitVec 1

/-- The 32-bit port form of a packet (R43, D27). -/
abbrev Word32 := BitVec 32

end Sys2Proof
end

