-- ==== Sys2Proof/Config.lean ====
section
/-! DEFINITION. What an implementation fixes: the parameters of R11. They are fixed per implementation and are no run-time
registers (R34). The spec has the model take them as arguments; `exec` has a fixed form, so `State.params` holds them, no
operation writes them, and a statement about every state holds for every value (notes/assumptions/1.md). -/

namespace Sys2Proof.Config

/-- The block's identity string (R2, D1). -/
def identity : String := "MIDI-DEC-HSLOT"

/-- MID_STATUS_POLICY (R11, R99, D9): what a status byte that is not real-time does mid-message. -/
inductive MidStatusPolicy where
  | abortRestart
  | storeAsData
  | ignore
  deriving DecidableEq, Repr

/-- EVENT_CODE_POLICY (R11, R81, D10): how the event byte of a system message is computed. -/
inductive EventCodePolicy where
  | typeNibble
  | usbMidiCin
  deriving DecidableEq, Repr

/-- FORWARD_POLICY (R11, R165, D22): how many payload bytes the Inbound Forwarder writes. -/
inductive ForwardPolicy where
  | allThree
  | byLength
  deriving DecidableEq, Repr

/-- The parameters of R11, one field per row of its table. -/
structure Params where
  /-- MID_STATUS_POLICY. -/
  midStatusPolicy : MidStatusPolicy
  /-- ABSORB_CLEARS_RS: whether a status byte absorbed at message start clears RunningStatus. -/
  absorbClearsRs : Bool
  /-- EVENT_CODE_POLICY. -/
  eventCodePolicy : EventCodePolicy
  /-- FORWARD_POLICY. -/
  forwardPolicy : ForwardPolicy
  /-- TICKS, "integer, 1 or more" (`Params.wf`). -/
  ticks : Nat
  /-- STRAP_MIDI_LEVEL: which strap level selects the MIDI persona. -/
  strapMidiLevel : Level
  deriving DecidableEq, Repr

/-- The defaults of R11. DESIGN CHOICE (notes/assumptions/2.md): R11 leaves `ticks` and `strapMidiLevel` OPEN; the two
values here only let `State.reset` be written out, and no statement rests on them. -/
def Params.default : Params :=
  { midStatusPolicy := .abortRestart
    absorbClearsRs := false
    eventCodePolicy := .typeNibble
    forwardPolicy := .allThree
    ticks := 1
    strapMidiLevel := 1#1 }

end Sys2Proof.Config
end

