-- ==== Sys2Proof/Syntax.lean ====
section
/-! DEFINITION. The input language: one constructor of `Instr` per row of spec/opcode_table.json, the port operations of R4 that
carry them, the message categories and types of R63, and what the host can do to the machine (R160, R168). -/

namespace Sys2Proof

/-- One constructor per row of spec/opcode_table.json. The operand `n` is the channel nibble b[3:0] of a channel-voice status
byte (R60, R62), `d` the seven bits of a data byte (R61). -/
inductive Instr where
  /-- R110, `1000nnnn`. -/
  | noteOff (n : BitVec 4)
  /-- R111, `1001nnnn`. -/
  | noteOn (n : BitVec 4)
  /-- R112, `1010nnnn`. -/
  | afterTouchPoly (n : BitVec 4)
  /-- R113, `1011nnnn`. -/
  | controlChange (n : BitVec 4)
  /-- R114, `1100nnnn`. -/
  | programChange (n : BitVec 4)
  /-- R115, `1101nnnn`. -/
  | afterTouchChannel (n : BitVec 4)
  /-- R116, `1110nnnn`. -/
  | pitchBend (n : BitVec 4)
  /-- R120, `0xF0`. -/
  | systemExclusive
  /-- R121, `0xF1`. -/
  | timeCodeQuarterFrame
  /-- R122, `0xF2`. -/
  | songPosition
  /-- R123, `0xF3`. -/
  | songSelect
  /-- R124, `0xF4`. -/
  | undefinedF4
  /-- R125, `0xF5`. -/
  | undefinedF5
  /-- R126, `0xF6`. -/
  | tuneRequest
  /-- R127, `0xF7`. -/
  | undefinedF7
  /-- R130, `0xF8`. -/
  | clock
  /-- R131, `0xF9`. -/
  | undefinedF9
  /-- R132, `0xFA`. -/
  | start
  /-- R133, `0xFB`. -/
  | continueMsg
  /-- R134, `0xFC`. -/
  | stop
  /-- R135, `0xFD`. -/
  | undefinedFD
  /-- R136, `0xFE`. -/
  | activeSensing
  /-- R137, `0xFF`. -/
  | systemReset
  /-- R140 to R142, `0ddddddd`. -/
  | dataByte (d : BitVec 7)
  /-- R152, the consumer's port operation: no byte encoding. -/
  | take
  /-- R200, the platform's operation: no byte encoding. -/
  | reset
  deriving DecidableEq, Repr

/-- The operations at the block's boundary (R4, D2), which are what an instruction is encoded as: "One RX_BYTE(0xNN) operation.
Its encoding is the byte 0xNN itself" (R84); TAKE and RESET have no byte. -/
inductive PortOp where
  | rx (b : Byte)
  | take
  | reset
  deriving DecidableEq, Repr

/-- MessageCategory: "one of {ChannelVoice, SystemCommon, SystemRealTime, Invalid}" (00_scope.md, glossary). -/
inductive MessageCategory where
  | channelVoice
  | systemCommon
  | systemRealTime
  | invalid
  deriving DecidableEq, Repr

/-- MessageType: the types of R63's table. -/
inductive MessageType where
  | noteOff
  | noteOn
  | afterTouchPoly
  | controlChange
  | programChange
  | afterTouchChannel
  | pitchBend
  | systemExclusive
  | timeCodeQuarterFrame
  | songPosition
  | songSelect
  | tuneRequest
  | clock
  | start
  | continueMsg
  | stop
  | activeSensing
  | systemReset
  | invalid
  deriving DecidableEq, Repr

/-- The USB-MIDI-shaped packet, a CompleteMessage: four bytes in this order (R43, R80). -/
structure Packet where
  /-- Byte 0: `ev(Data1)` (R81). -/
  event : Byte
  /-- Byte 1: the status byte. -/
  data1 : Byte
  /-- Byte 2: the first data byte, or zero fill. -/
  data2 : Byte
  /-- Byte 3: the second data byte, or zero fill. -/
  data3 : Byte
  deriving DecidableEq, Repr

/-- What the collaborators' functions return if the main loop calls them in this turn (R168: "draws: free inputs that the model
quantifies over"). -/
structure Draws where
  /-- `device_configured() -> bool`. -/
  deviceConfigured : Bool
  /-- `channel_ready() -> bool`. -/
  channelReady : Bool
  /-- `send_packet(4 bytes) -> Result`: true where it succeeds. -/
  sendOk : Bool
  /-- `receive_packet() -> Option<4 bytes>`. -/
  received : Option Packet
  deriving DecidableEq, Repr

/-- Everything the outside world does to the machine (R160, R168), one atomic event each (R5, R46). -/
inductive HostEvent where
  /-- An operation at the block's boundary: a byte received, a TAKE, a RESET (R4, R160). -/
  | op (o : PortOp)
  /-- The platform puts the MODE strap pin at this level (R4 MODE, R33). Only RESET samples it. -/
  | strap (l : Level)
  /-- The main loop makes its next move (R161), with these draws. -/
  | mainLoop (d : Draws)
  deriving DecidableEq, Repr

end Sys2Proof
end

