-- ==== Sys2Proof/Machine/Operands.lean ====
section
/-! DEFINITION. Bit fields and byte orders: the fields of a status byte and of a data byte (R60 to R62), and the two orders of a
packet's bytes (R43, R83). -/

namespace Sys2Proof.Machine

/-- `b[7:4]`. -/
def highNibble (b : Byte) : BitVec 4 := b.extractLsb' 4 4

/-- `b[3:0]`. -/
def lowNibble (b : Byte) : BitVec 4 := b.extractLsb' 0 4

/-- `b[6:0]` (R61). -/
def lowSeven (b : Byte) : BitVec 7 := b.extractLsb' 0 7

/-- `{hi, lo}`, a status byte from its two nibbles (R60). -/
def byteOfNibbles (hi lo : BitVec 4) : Byte := hi ++ lo

/-- `{0, d}`, the data byte of value `d` (R61). -/
def byteOfSeven (d : BitVec 7) : Byte := (0#1) ++ d

/-- `zext_8(s[7:4])`, the type nibble as a byte (R81). -/
def typeNibble (s : Byte) : Byte := (highNibble s).setWidth 8

/-- "The channel number of a channel-voice status byte is b[3:0] + 1, in 1..16. The decoder never reads it." (R62) -/
def channelNumber (b : Byte) : Nat := (lowNibble b).toNat + 1

/-- A status byte has `b[7] = 1`, that is `b >= 0x80` (R60). -/
def isStatus (b : Byte) : Bool := decide (0x80#8 ≤ b)

/-- A data byte has `b[7] = 0`, that is `b < 0x80` (R61). -/
def isData (b : Byte) : Bool := decide (b < 0x80#8)

/-- The packet's bytes in the order it is sent: bytes 0, 1, 2, 3 (R43, R83). -/
def packetBytes (p : Packet) : List Byte := [p.event, p.data1, p.data2, p.data3]

/-- The packet on a 32-bit port: byte k at bits [8k+7:8k], so byte 0 at bits [7:0] (R43, D27). -/
def packetWord32 (p : Packet) : Word32 :=
  p.event.setWidth 32 ||| (p.data1.setWidth 32 <<< 8) ||| (p.data2.setWidth 32 <<< 16) ||| (p.data3.setWidth 32 <<< 24)

/-- The packet read back from its 32-bit form (R43, D27). -/
def packetOfWord32 (w : Word32) : Packet :=
  { event := w.extractLsb' 0 8
    data1 := w.extractLsb' 8 8
    data2 := w.extractLsb' 16 8
    data3 := w.extractLsb' 24 8 }

end Sys2Proof.Machine
end

