-- ==== Sys2Proof/WellFormed.lean ====
section
/-! DEFINITION. What must hold of the syntax beyond its types. Every operand of `Instr` has its exact width in its type (4 bits of
channel, 7 bits of data), so an instruction needs no further check; of the parameters, TICKS must be "1 or more" (R11). -/

namespace Sys2Proof

/-- Every instruction is well formed: R72, "All 256 values are accepted", and the operand widths stand in the types. One arm per
constructor, so that a constructor added later cannot slip past. -/
def Instr.wf : Instr → Bool
  | .noteOff _ => true
  | .noteOn _ => true
  | .afterTouchPoly _ => true
  | .controlChange _ => true
  | .programChange _ => true
  | .afterTouchChannel _ => true
  | .pitchBend _ => true
  | .systemExclusive => true
  | .timeCodeQuarterFrame => true
  | .songPosition => true
  | .songSelect => true
  | .undefinedF4 => true
  | .undefinedF5 => true
  | .tuneRequest => true
  | .undefinedF7 => true
  | .clock => true
  | .undefinedF9 => true
  | .start => true
  | .continueMsg => true
  | .stop => true
  | .undefinedFD => true
  | .activeSensing => true
  | .systemReset => true
  | .dataByte _ => true
  | .take => true
  | .reset => true

/-- The parameters are legal: TICKS is an "integer, 1 or more" (R11). The other fields have only legal values in their types. -/
def Config.Params.wf (p : Config.Params) : Bool := decide (1 ≤ p.ticks)

end Sys2Proof
end

