-- ==== Sys2Proof/Decode.lean ====
section
/-! DEFINITION. Decoding and encoding. A byte decodes by the table of spec/opcode_table.json (R60, R61, R63): every one of the 256
values is a legal input (R72). An instruction's encoding is the port operation that carries it (R4, R84): the byte classes are
RX_BYTE of their byte; TAKE and RESET have no byte encoding. -/

namespace Sys2Proof

open Sys2Proof.Machine

/-- The system status bytes `1111ssss`, by `s = b[3:0]`, "map 1:1 ... by exact value" (R60, R63). -/
def decodeSystem (s : BitVec 4) : Instr :=
  match s.toNat with
  | 0x0 => .systemExclusive
  | 0x1 => .timeCodeQuarterFrame
  | 0x2 => .songPosition
  | 0x3 => .songSelect
  | 0x4 => .undefinedF4
  | 0x5 => .undefinedF5
  | 0x6 => .tuneRequest
  | 0x7 => .undefinedF7
  | 0x8 => .clock
  | 0x9 => .undefinedF9
  | 0xA => .start
  | 0xB => .continueMsg
  | 0xC => .stop
  | 0xD => .undefinedFD
  | 0xE => .activeSensing
  | _ => .systemReset

/-- The row of the opcode table that a byte matches, with its operand fields (R60, R61, R63). Total: "All 256 values are
accepted" (R72). -/
def decodeByte (b : Byte) : Instr :=
  match (highNibble b).toNat with
  | 0x8 => .noteOff (lowNibble b)
  | 0x9 => .noteOn (lowNibble b)
  | 0xA => .afterTouchPoly (lowNibble b)
  | 0xB => .controlChange (lowNibble b)
  | 0xC => .programChange (lowNibble b)
  | 0xD => .afterTouchChannel (lowNibble b)
  | 0xE => .pitchBend (lowNibble b)
  | 0xF => decodeSystem (lowNibble b)
  | _ => .dataByte (lowSeven b)

/-- The instruction a port operation is (R4). -/
def decodeOp : PortOp → Instr
  | .rx b => decodeByte b
  | .take => .take
  | .reset => .reset

/-- Why a list of bytes does not begin with an instruction. -/
inductive DecodeError where
  /-- There is no byte to read. It is the only error: no byte value is illegal (R72). -/
  | noByte
  deriving DecidableEq, Repr

/-- The first instruction of a list of bytes, and the bytes after it. Every instruction that has bytes has one. -/
def decodeBytes : List Byte → Except DecodeError (Instr × List Byte)
  | [] => .error .noByte
  | b :: rest => .ok (decodeByte b, rest)

/-- The port operation that an instruction is encoded as (R4, R84), from the encoding column of the opcode table. -/
def encodeOp : Instr → PortOp
  | .noteOff n => .rx (byteOfNibbles 0x8#4 n)
  | .noteOn n => .rx (byteOfNibbles 0x9#4 n)
  | .afterTouchPoly n => .rx (byteOfNibbles 0xA#4 n)
  | .controlChange n => .rx (byteOfNibbles 0xB#4 n)
  | .programChange n => .rx (byteOfNibbles 0xC#4 n)
  | .afterTouchChannel n => .rx (byteOfNibbles 0xD#4 n)
  | .pitchBend n => .rx (byteOfNibbles 0xE#4 n)
  | .systemExclusive => .rx 0xF0#8
  | .timeCodeQuarterFrame => .rx 0xF1#8
  | .songPosition => .rx 0xF2#8
  | .songSelect => .rx 0xF3#8
  | .undefinedF4 => .rx 0xF4#8
  | .undefinedF5 => .rx 0xF5#8
  | .tuneRequest => .rx 0xF6#8
  | .undefinedF7 => .rx 0xF7#8
  | .clock => .rx 0xF8#8
  | .undefinedF9 => .rx 0xF9#8
  | .start => .rx 0xFA#8
  | .continueMsg => .rx 0xFB#8
  | .stop => .rx 0xFC#8
  | .undefinedFD => .rx 0xFD#8
  | .activeSensing => .rx 0xFE#8
  | .systemReset => .rx 0xFF#8
  | .dataByte d => .rx (byteOfSeven d)
  | .take => .take
  | .reset => .reset

/-- The words of an instruction: its one byte, and none for the two port operations without a byte encoding. -/
def encode (i : Instr) : List Byte :=
  match encodeOp i with
  | .rx b => [b]
  | .take => []
  | .reset => []

/-- The mnemonic of an instruction's row in spec/opcode_table.json. -/
def mnemonic : Instr → String
  | .noteOff _ => "NoteOff"
  | .noteOn _ => "NoteOn"
  | .afterTouchPoly _ => "AfterTouchPoly"
  | .controlChange _ => "ControlChange"
  | .programChange _ => "ProgramChange"
  | .afterTouchChannel _ => "AfterTouchChannel"
  | .pitchBend _ => "PitchBend"
  | .systemExclusive => "SystemExclusive"
  | .timeCodeQuarterFrame => "TimeCodeQuarterFrame"
  | .songPosition => "SongPosition"
  | .songSelect => "SongSelect"
  | .undefinedF4 => "Undefined_F4"
  | .undefinedF5 => "Undefined_F5"
  | .tuneRequest => "TuneRequest"
  | .undefinedF7 => "Undefined_F7"
  | .clock => "Clock"
  | .undefinedF9 => "Undefined_F9"
  | .start => "Start"
  | .continueMsg => "Continue"
  | .stop => "Stop"
  | .undefinedFD => "Undefined_FD"
  | .activeSensing => "ActiveSensing"
  | .systemReset => "SystemReset"
  | .dataByte _ => "DataByte"
  | .take => "TAKE"
  | .reset => "RESET"

/-- A byte row of spec/opcode_table.json, transcribed column by column. -/
structure OpcodeRow where
  mnemonic : String
  /-- The column "match". -/
  pattern : Byte
  /-- The column "mask". -/
  mask : Byte
  category : MessageCategory
  /-- The column "length", `none` for NONE. -/
  length : Option Nat
  realTime : Bool
  setsRunningStatus : Bool
  deriving DecidableEq, Repr

/-- The channel-voice rows. -/
def opcodeRowsChannelVoice : List OpcodeRow :=
  [ ⟨"NoteOff", 0x80#8, 0xF0#8, .channelVoice, some 3, false, true⟩,
    ⟨"NoteOn", 0x90#8, 0xF0#8, .channelVoice, some 3, false, true⟩,
    ⟨"AfterTouchPoly", 0xA0#8, 0xF0#8, .channelVoice, some 3, false, true⟩,
    ⟨"ControlChange", 0xB0#8, 0xF0#8, .channelVoice, some 3, false, true⟩,
    ⟨"ProgramChange", 0xC0#8, 0xF0#8, .channelVoice, some 2, false, true⟩,
    ⟨"AfterTouchChannel", 0xD0#8, 0xF0#8, .channelVoice, some 2, false, true⟩,
    ⟨"PitchBend", 0xE0#8, 0xF0#8, .channelVoice, some 3, false, true⟩ ]

/-- The system rows `0xF0..0xF7`. -/
def opcodeRowsSystemCommon : List OpcodeRow :=
  [ ⟨"SystemExclusive", 0xF0#8, 0xFF#8, .systemCommon, none, false, false⟩,
    ⟨"TimeCodeQuarterFrame", 0xF1#8, 0xFF#8, .systemCommon, some 2, false, false⟩,
    ⟨"SongPosition", 0xF2#8, 0xFF#8, .systemCommon, some 3, false, false⟩,
    ⟨"SongSelect", 0xF3#8, 0xFF#8, .systemCommon, some 2, false, false⟩,
    ⟨"Undefined_F4", 0xF4#8, 0xFF#8, .invalid, none, false, false⟩,
    ⟨"Undefined_F5", 0xF5#8, 0xFF#8, .invalid, none, false, false⟩,
    ⟨"TuneRequest", 0xF6#8, 0xFF#8, .systemCommon, some 1, false, false⟩,
    ⟨"Undefined_F7", 0xF7#8, 0xFF#8, .invalid, none, false, false⟩ ]

/-- The system rows `0xF8..0xFF`. -/
def opcodeRowsRealTime : List OpcodeRow :=
  [ ⟨"Clock", 0xF8#8, 0xFF#8, .systemRealTime, some 1, true, false⟩,
    ⟨"Undefined_F9", 0xF9#8, 0xFF#8, .invalid, none, false, false⟩,
    ⟨"Start", 0xFA#8, 0xFF#8, .systemRealTime, some 1, true, false⟩,
    ⟨"Continue", 0xFB#8, 0xFF#8, .systemRealTime, some 1, true, false⟩,
    ⟨"Stop", 0xFC#8, 0xFF#8, .systemRealTime, some 1, true, false⟩,
    ⟨"Undefined_FD", 0xFD#8, 0xFF#8, .invalid, none, false, false⟩,
    ⟨"ActiveSensing", 0xFE#8, 0xFF#8, .systemRealTime, some 1, true, false⟩,
    ⟨"SystemReset", 0xFF#8, 0xFF#8, .systemRealTime, some 1, true, false⟩ ]

/-- The byte rows of spec/opcode_table.json. -/
def opcodeRows : List OpcodeRow :=
  opcodeRowsChannelVoice ++ opcodeRowsSystemCommon ++ opcodeRowsRealTime
    ++ [⟨"DataByte", 0x00#8, 0x80#8, .invalid, none, false, false⟩]

/-- Whether a byte belongs to a row: its masked bits are the row's pattern. -/
def OpcodeRow.matchesByte (r : OpcodeRow) (b : Byte) : Bool := b &&& r.mask == r.pattern

/-- The mnemonics of the table's rows that a port operation belongs to: for a byte, every row it matches. -/
def rowMnemonics : PortOp → List String
  | .rx b => (opcodeRows.filter fun r => r.matchesByte b).map OpcodeRow.mnemonic
  | .take => ["TAKE"]
  | .reset => ["RESET"]

/-- The bytes of an instruction of `nbits` bits numbered as spec/opcode_table.json numbers them: the first byte holds bits 7 to 0. -/
def tableWordBytes (nbits w : Nat) : List Byte :=
  (List.range (nbits / 8)).map fun k => BitVec.ofNat 8 (w / 2 ^ (8 * k))

/-- What the decoder reads from an instruction whose bits are `w`, for the host. Every instruction that has an encoding has one
byte; TAKE and RESET have none, so no word decodes to them (notes/assumptions/10.md). -/
def decodeTableWord (nbits w : Nat) : Option Instr :=
  match decodeBytes (tableWordBytes nbits w) with
  | .ok (i, []) => some i
  | .ok (_, _ :: _) => none
  | .error .noByte => none

end Sys2Proof
end

