-- ==== Sys2Proof/Machine/Classify.lean ====
section
/-! DEFINITION. The Byte Classifier (R63 to R66), the Message Length Table (R70) and the event byte (R81). -/

namespace Sys2Proof.Machine

/-- One row of R63's table: the bytes `lo..hi`, their category and their type. -/
structure ClassRow where
  lo : Byte
  hi : Byte
  category : MessageCategory
  type : MessageType
  deriving DecidableEq, Repr

/-- R63's table, the rows below `0xF0`. The values the source does not give are the spec's, from general knowledge
(93_implementation_defined.md G1; notes/assumptions/12.md). -/
def classRowsLow : List ClassRow :=
  [ ⟨0x00#8, 0x7F#8, .invalid, .invalid⟩,
    ⟨0x80#8, 0x8F#8, .channelVoice, .noteOff⟩,
    ⟨0x90#8, 0x9F#8, .channelVoice, .noteOn⟩,
    ⟨0xA0#8, 0xAF#8, .channelVoice, .afterTouchPoly⟩,
    ⟨0xB0#8, 0xBF#8, .channelVoice, .controlChange⟩,
    ⟨0xC0#8, 0xCF#8, .channelVoice, .programChange⟩,
    ⟨0xD0#8, 0xDF#8, .channelVoice, .afterTouchChannel⟩,
    ⟨0xE0#8, 0xEF#8, .channelVoice, .pitchBend⟩ ]

/-- R63's table, the rows `0xF0..0xFF`; `0xF7` and the category of `0xF0` by D7. -/
def classRowsSystem : List ClassRow :=
  [ ⟨0xF0#8, 0xF0#8, .systemCommon, .systemExclusive⟩,
    ⟨0xF1#8, 0xF1#8, .systemCommon, .timeCodeQuarterFrame⟩,
    ⟨0xF2#8, 0xF2#8, .systemCommon, .songPosition⟩,
    ⟨0xF3#8, 0xF3#8, .systemCommon, .songSelect⟩,
    ⟨0xF4#8, 0xF4#8, .invalid, .invalid⟩,
    ⟨0xF5#8, 0xF5#8, .invalid, .invalid⟩,
    ⟨0xF6#8, 0xF6#8, .systemCommon, .tuneRequest⟩,
    ⟨0xF7#8, 0xF7#8, .invalid, .invalid⟩,
    ⟨0xF8#8, 0xF8#8, .systemRealTime, .clock⟩,
    ⟨0xF9#8, 0xF9#8, .invalid, .invalid⟩,
    ⟨0xFA#8, 0xFA#8, .systemRealTime, .start⟩,
    ⟨0xFB#8, 0xFB#8, .systemRealTime, .continueMsg⟩,
    ⟨0xFC#8, 0xFC#8, .systemRealTime, .stop⟩,
    ⟨0xFD#8, 0xFD#8, .invalid, .invalid⟩,
    ⟨0xFE#8, 0xFE#8, .systemRealTime, .activeSensing⟩,
    ⟨0xFF#8, 0xFF#8, .systemRealTime, .systemReset⟩ ]

/-- R63's table. -/
def classRows : List ClassRow := classRowsLow ++ classRowsSystem

/-- `classify(b)`: the category and the type of a byte (R63), pure and total (R66). The table's ranges cover every byte, so the
last case is never met. -/
def classify (b : Byte) : MessageCategory × MessageType :=
  match classRows.find? fun r => decide (r.lo ≤ b) && decide (b ≤ r.hi) with
  | some r => (r.category, r.type)
  | none => (.invalid, .invalid)

/-- `type(classify(b))`, the type alone (R92). -/
def typeOf (b : Byte) : MessageType := (classify b).2

/-- `len(t)`, the total length of a message of this type, its status byte counted, or NONE (R70). -/
def len : MessageType → Option Nat
  | .start => some 1
  | .stop => some 1
  | .continueMsg => some 1
  | .clock => some 1
  | .activeSensing => some 1
  | .systemReset => some 1
  | .tuneRequest => some 1
  | .programChange => some 2
  | .afterTouchChannel => some 2
  | .timeCodeQuarterFrame => some 2
  | .songSelect => some 2
  | .noteOn => some 3
  | .noteOff => some 3
  | .controlChange => some 3
  | .pitchBend => some 3
  | .afterTouchPoly => some 3
  | .songPosition => some 3
  | .systemExclusive => none
  | .invalid => none

/-- `is_cv(x)`: `0x80 <= x <= 0xEF` (R64). -/
def isCv (x : Byte) : Bool := decide (0x80#8 ≤ x) && decide (x ≤ 0xEF#8)

/-- `is_rt(x)`: one of the six real-time values (R65); `0xF9` and `0xFD` are not. -/
def isRt (x : Byte) : Bool :=
  x == 0xF8#8 || x == 0xFA#8 || x == 0xFB#8 || x == 0xFC#8 || x == 0xFE#8 || x == 0xFF#8

/-- `ev(s)`, the Event byte for status byte `s` (R81). The cable number, bits [7:4], is 0 (R80). -/
def eventByte (policy : Config.EventCodePolicy) (s : Byte) : Byte :=
  match policy with
  | .typeNibble => typeNibble s
  | .usbMidiCin =>
    if isCv s then typeNibble s
    else if s = 0xF1#8 ∨ s = 0xF3#8 then 0x02#8
    else if s = 0xF2#8 then 0x03#8
    else if s = 0xF6#8 then 0x05#8
    else 0x0F#8

/-- `fwd_len(s)`: `len(type(classify(s)))` if that is 1, 2 or 3, and 3 otherwise (R165). -/
def forwardLength (s : Byte) : Nat := (len (typeOf s)).getD 3

end Sys2Proof.Machine
end

