-- ==== Sys2Proof/Machine/State.lean ====
section
/-! DEFINITION. The machine's state: the block's registers (10_state.md R20 to R33), the parameters it is built with (R11), the
environment model's state (46_environment.md), the record of what was observed (R28), and what the host does next (R46, R160). -/

namespace Sys2Proof.Machine

open Sys2Proof.Config

/-- PM, "a file of three 8-bit registers PM[0], PM[1] and PM[2]" (R20). -/
structure PendingMessage where
  /-- PM[0], the status byte. -/
  b0 : Byte
  /-- PM[1], the first data byte. -/
  b1 : Byte
  /-- PM[2], the second data byte. -/
  b2 : Byte
  deriving DecidableEq, Repr

/-- "PendingMessage empty", encoded as three zero bytes (R20, D5). -/
def PendingMessage.empty : PendingMessage := ⟨0x00#8, 0x00#8, 0x00#8⟩

/-- RunningStatus "Invalid", encoded as a byte that is no status byte (R23, D4). -/
def rsInvalid : Byte := 0x00#8

/-- HS, the single-slot handoff latch: at most one message and a validity flag (R25, R26, R150). -/
structure Latch where
  /-- HS.valid (R25), the block's only flag (R32). -/
  valid : Bool
  /-- HS.msg[0..3] (R26). -/
  msg : Packet
  deriving DecidableEq, Repr

/-- The packet of four zero bytes. -/
def zeroPacket : Packet := ⟨0x00#8, 0x00#8, 0x00#8, 0x00#8⟩

/-- The latch after RESET: empty, its bytes zero (R25, R26, R200; D6, notes/assumptions/11.md). -/
def Latch.empty : Latch := ⟨false, zeroPacket⟩

/-- MODE: which of the two personas the strap selected (R33, R169). -/
inductive Persona where
  | midi
  | serial
  deriving DecidableEq, Repr

/-- One entry of the block's observation: "the sequence of latch writes, together with the sequence of TAKE results" (R28), and the
RESETs between them. -/
inductive TraceEvent where
  /-- An emission wrote this packet into the latch (R151). -/
  | wrote (p : Packet)
  /-- A TAKE returned this: `some m`, or `none` for Empty (R152). -/
  | took (r : Option Packet)
  /-- RESET put the block into its reset state and sampled this persona (R200). -/
  | wasReset (m : Persona)
  deriving DecidableEq, Repr

/-- Where the main loop stands in its iteration (R161): the next thing it does. -/
inductive LoopPoint where
  /-- The top of the iteration: `if device_configured()`. -/
  | top
  /-- `DISPATCH()`. -/
  | dispatch
  /-- `FORWARD()`. -/
  | forward
  /-- `INDICATORS()`. -/
  | indicators
  /-- `usb_housekeeping()`. -/
  | housekeeping
  deriving DecidableEq, Repr

/-- A packet given to `send_packet`, with the Result it returned (R162, R163). -/
structure Sent where
  packet : Packet
  ok : Bool
  deriving DecidableEq, Repr

/-- The environment model's state (R161 to R168). -/
structure Environment where
  /-- Where the main loop stands. -/
  loop : LoopPoint
  /-- `tx_count`, the transmit-activity indicator's counter (R166). -/
  txCount : Nat
  /-- `rx_count`, the receive-activity indicator's counter (R166). -/
  rxCount : Nat
  /-- The packets given to `send_packet`, oldest first. The model's own record (notes/assumptions/9.md). -/
  usbSent : List Sent
  /-- The bytes given to `transmit_byte`, oldest first. The model's own record (notes/assumptions/9.md). -/
  uartSent : List Byte
  deriving DecidableEq, Repr

/-- The environment when the main loop starts: at its top, the counters at their reset value 0 (R166, R203). -/
def Environment.initial : Environment :=
  { loop := .top, txCount := 0, rxCount := 0, usbSent := [], uartSent := [] }

/-- Why the machine stops with a fault: never. "The block has no synchronous exceptions" (R180) and "no fault outcome and no stuck
state" (R182), so the type is empty. -/
inductive Fault
  deriving DecidableEq, Repr

/-- Why a step gives no meaning. -/
inductive Refusal where
  /-- Raised by an arm of `exec` for an instruction without a meaning; no arm raises it now. Safe: nothing is claimed. -/
  | notModelled (mnemonic : String)
  /-- Raised by every RX_BYTE in a state that fails INV: "A state that fails the invariant ... is not reachable, and a model refuses
  it. The refusal errs toward unprovable." (R182, R24, U8). Safe: no run from reset meets it (notes/assumptions/6.md). -/
  | outsideInvariant
  deriving DecidableEq, Repr

/-- The machine's state. INVENTORY.md lists each field with its rule and its reset value. -/
structure State where
  /-- PM (R20). -/
  pm : PendingMessage
  /-- FI, a 2-bit unsigned register (R21): 0 at message start, 1 or 2 mid-message. -/
  fi : BitVec 2
  /-- EL, a 2-bit unsigned register (R22): 0, 2 or 3 between operations. -/
  el : BitVec 2
  /-- RS (R23): Invalid (`rsInvalid`), or a channel-voice status byte. -/
  rs : Byte
  /-- HS (R25, R26). -/
  hs : Latch
  /-- MODE (R33), written by RESET only. -/
  mode : Persona
  /-- The level of the MODE strap pin, an input (R4, R33). -/
  strap : Level
  /-- The parameters of R11, written by no operation (R34). -/
  params : Params
  /-- The environment model (R161 to R168). -/
  env : Environment
  /-- The observation so far, oldest first (R28). The model's own record, read by no operation (notes/assumptions/9.md). -/
  trace : List TraceEvent
  /-- What the host does next, in the one total order of R46, first to come first (notes/assumptions/3.md). -/
  pending : List HostEvent
  deriving DecidableEq, Repr

/-- The machine right after RESET (R200), nothing observed and nothing pending, the parameters at R11's defaults. MODE is the
sample of the strap level named here. DESIGN CHOICE for `strap`, `ticks` and `strapMidiLevel`, which the spec leaves OPEN
(notes/assumptions/2.md); DESIGN CHOICE of the spec's own for EL, the encodings of Invalid and of empty, and the latch (D3 to D6,
notes/assumptions/11.md). -/
def State.reset : State :=
  { pm := PendingMessage.empty
    fi := 0#2
    el := 0#2
    rs := rsInvalid
    hs := Latch.empty
    mode := .midi
    strap := 1#1
    params := Params.default
    env := Environment.initial
    trace := []
    pending := [] }

end Sys2Proof.Machine
end

