-- ==== Sys2Proof/Machine/Flags.lean ====
section
/-! DEFINITION. The block's only flag, HS.valid, and the two things that change it besides RESET (R25, R32). -/

namespace Sys2Proof.Machine

/-- An emission stores the packet and sets HS.valid, whatever was there (R151, R154). -/
def Latch.write (_h : Latch) (p : Packet) : Latch := { valid := true, msg := p }

/-- What a TAKE returns: the message where HS.valid is 1, Empty (`none`) where it is 0 (R152). -/
def Latch.takeResult (h : Latch) : Option Packet := if h.valid then some h.msg else none

/-- What a TAKE leaves: HS.valid is 0, HS.msg keeps its bytes (R50, R152; D25, notes/assumptions/21.md). -/
def Latch.clear (h : Latch) : Latch := { h with valid := false }

end Sys2Proof.Machine
end

