-- ==== Sys2Proof/Machine/Ops.lean ====
section
/-! DEFINITION. The shared operations on the block's registers and the decoder step RX_BYTE (R90 to R103), the TAKE (R152) and the
RESET (R200). The block takes no exception and returns from none (R180, R185, R187), so there is no operation for either. -/

namespace Sys2Proof.Machine

open Sys2Proof.Config

/-- `PM[i]`. PM has the indices 0, 1, 2 (R20); no other is read in a state that meets INV (notes/assumptions/15.md). -/
def PendingMessage.read (pm : PendingMessage) (i : Nat) : Byte :=
  match i with
  | 0 => pm.b0
  | 1 => pm.b1
  | _ => pm.b2

/-- `PM[i] <- b`. A write outside the indices 0, 1, 2 changes nothing; none happens in a state that meets INV (R24,
notes/assumptions/15.md). -/
def PendingMessage.write (pm : PendingMessage) (i : Nat) (b : Byte) : PendingMessage :=
  match i with
  | 0 => { pm with b0 := b }
  | 1 => { pm with b1 := b }
  | 2 => { pm with b2 := b }
  | _ => pm

/-- `PM[i] <- b` in the state. -/
def writePm (i : Nat) (b : Byte) (s : State) : State := { s with pm := s.pm.write i b }

/-- `FI <- v`. -/
def setFi (v : BitVec 2) (s : State) : State := { s with fi := v }

/-- `EL <- v`. -/
def setEl (v : BitVec 2) (s : State) : State := { s with el := v }

/-- `RS <- v`. -/
def setRs (v : Byte) (s : State) : State := { s with rs := v }

/-- An entry of the observation is made (R28). -/
def observe (e : TraceEvent) (s : State) : State := { s with trace := s.trace ++ [e] }

/-- `clear_pm()` (R97). -/
def clearPm (s : State) : State := { s with pm := PendingMessage.empty }

/-- The end of a message, completed or aborted: `clear_pm() ; FI <- 0 ; EL <- 0` (R94, R95, R99, R101). -/
def endMessage (s : State) : State := setEl 0#2 (setFi 0#2 (clearPm s))

/-- The CompleteMessage `(ev(d1), d1, d2, d3)` of `emit(d1, d2, d3)` (R80, R151). -/
def completeMessage (policy : EventCodePolicy) (d1 d2 d3 : Byte) : Packet :=
  { event := eventByte policy d1, data1 := d1, data2 := d2, data3 := d3 }

/-- `write(m)` (R151): the latch takes the message unconditionally, and the write is observed (R28). -/
def writeLatch (p : Packet) (s : State) : State := observe (.wrote p) { s with hs := s.hs.write p }

/-- `emit(d1, d2, d3)` (R151). -/
def emit (d1 d2 d3 : Byte) (s : State) : State :=
  writeLatch (completeMessage s.params.eventCodePolicy d1 d2 d3) s

/-- The comparison `FI >= EL - 1` (R95, R101, R103). EL is 2 or 3 wherever the step asks it. -/
def lastByte (s : State) : Bool := decide (s.el.toNat - 1 ≤ s.fi.toNat)

/-- R91: `PM[0] <- b`, and under running status `PM[0] <- RS ; PM[1] <- b ; FI <- 1`. -/
def storeFirst (b : Byte) (s : State) : State :=
  let s := writePm 0 b s
  if isCv s.rs && isData b then setFi 1#2 (writePm 1 b (writePm 0 s.rs s)) else s

/-- R93: a byte of length NONE is absorbed. -/
def absorb (s : State) : State :=
  let s := setEl 0#2 s
  bif s.params.absorbClearsRs then setRs rsInvalid s else s

/-- R94: a 1-byte message is emitted; RS is unchanged. -/
def emitOneByte (s : State) : State := endMessage (emit s.pm.b0 0x00#8 0x00#8 s)

/-- R95, R96: a 2- or 3-byte message sets EL; a running-status message of a 2-byte type is complete at once, any other waits. -/
def beginMessage (n : Nat) (s : State) : State :=
  let s := setEl (BitVec.ofNat 2 n) s
  if lastByte s then endMessage (setRs s.pm.b0 (emit s.pm.b0 s.pm.b1 0x00#8 s)) else setFi (s.fi + 1#2) s

/-- `START(b)`, rule 1 of the decoder (R90 to R96): the byte is stored, then `PM[0]` is classified, whichever path wrote it (R92). -/
def rxStart (b : Byte) (s : State) : State :=
  let s := storeFirst b s
  match len (typeOf s.pm.b0) with
  | none => absorb s
  | some 1 => emitOneByte s
  | some n => beginMessage n s

/-- R101: the message is complete. -/
def completePending (s : State) : State :=
  let s := emit s.pm.b0 s.pm.b1 (if s.el = 3#2 then s.pm.b2 else 0x00#8) s
  endMessage (setRs (if isCv s.pm.b0 then s.pm.b0 else rsInvalid) s)

/-- R100 to R102: the byte is stored at `PM[FI]`, and the message is complete or waits for its next byte. -/
def storeNext (b : Byte) (s : State) : State :=
  let s := writePm s.fi.toNat b s
  if lastByte s then completePending s else setFi (s.fi + 1#2) s

/-- R99: a status byte that is not real-time, mid-message, by MID_STATUS_POLICY. -/
def midStatus (b : Byte) (s : State) : State :=
  match s.params.midStatusPolicy with
  | .abortRestart => rxStart b (endMessage s)
  | .ignore => s
  | .storeAsData => storeNext b s

/-- `MID(b)`, rule 2 of the decoder (R90, R98 to R102). -/
def rxMid (b : Byte) (s : State) : State :=
  if isStatus b then
    if isRt b then emit b 0x00#8 0x00#8 s else midStatus b s
  else storeNext b s

/-- The decoder step on a state that meets INV (R90). -/
def rxStep (b : Byte) (s : State) : State := if s.fi = 0#2 then rxStart b s else rxMid b s

/-- INV(s) of R24, its conditions on PM, FI, EL and RS. -/
abbrev State.DecoderInv (s : State) : Prop :=
  (s.fi = 0#2 → s.el = 0#2) ∧
  (s.fi ≠ 0#2 →
    (s.el = 2#2 ∨ s.el = 3#2) ∧ s.fi < s.el ∧ len (typeOf s.pm.b0) = some s.el.toNat ∧
    (s.params.midStatusPolicy ≠ .storeAsData →
      ∀ i < s.fi.toNat, 1 ≤ i → isData (s.pm.read i) = true)) ∧
  (s.rs = rsInvalid ∨ isCv s.rs = true)

/-- `RX_BYTE(b)` (R90). In a state that fails INV it is refused: the spec gives such a state no meaning and says that a model
refuses it (R24, R182, U8; notes/assumptions/6.md). -/
def rxByte (b : Byte) (s : State) : Host.Outcome State Fault Refusal :=
  if s.DecoderInv then .next (rxStep b s) else .refused .outsideInvariant

/-- `TAKE()` (R152), an atomic exchange of HS.valid with 0 (R50); its result is observed (R28). -/
def takeLatch (s : State) : State := observe (.took s.hs.takeResult) { s with hs := s.hs.clear }

/-- `sample(strap)`: the persona that the level on the pin selects (R33, R200, STRAP_MIDI_LEVEL). -/
def samplePersona (p : Params) (l : Level) : Persona := if l = p.strapMidiLevel then .midi else .serial

/-- `RESET` (R200): the block's registers have their reset values and MODE is sampled from the strap. -/
def resetBlock (s : State) : State :=
  observe (.wasReset (samplePersona s.params s.strap))
    { s with
      pm := PendingMessage.empty
      fi := 0#2
      el := 0#2
      rs := rsInvalid
      hs := Latch.empty
      mode := samplePersona s.params s.strap }

end Sys2Proof.Machine
end

