-- ==== Sys2Proof/Machine/ChannelVoice.lean ====
section
/-! DEFINITION. The channel-voice status bytes (41_channel_voice.md): "Each rule below is the RX_BYTE step applied to one channel-voice status
class." At `FI = 0` the byte starts a message; at `FI > 0` it follows MID_STATUS_POLICY (R117); each is written from its own row. -/

namespace Sys2Proof.Machine

/-- R110: NoteOff, `b = 0x8n`, two data bytes follow (key, velocity). -/
def execNoteOff (n : BitVec 4) (s : State) : Host.Outcome State Fault Refusal := rxByte (byteOfNibbles 0x8#4 n) s

/-- R111: NoteOn, `b = 0x9n`, two data bytes follow (key, velocity); a velocity of 0 is passed through unchanged. -/
def execNoteOn (n : BitVec 4) (s : State) : Host.Outcome State Fault Refusal := rxByte (byteOfNibbles 0x9#4 n) s

/-- R112: AfterTouchPoly, `b = 0xAn`, two data bytes follow (key, pressure). -/
def execAfterTouchPoly (n : BitVec 4) (s : State) : Host.Outcome State Fault Refusal := rxByte (byteOfNibbles 0xA#4 n) s

/-- R113: ControlChange, `b = 0xBn`, two data bytes follow (controller, value); channel-mode controllers get no special treatment. -/
def execControlChange (n : BitVec 4) (s : State) : Host.Outcome State Fault Refusal := rxByte (byteOfNibbles 0xB#4 n) s

/-- R114: ProgramChange, `b = 0xCn`, one data byte follows (program). -/
def execProgramChange (n : BitVec 4) (s : State) : Host.Outcome State Fault Refusal := rxByte (byteOfNibbles 0xC#4 n) s

/-- R115: AfterTouchChannel, `b = 0xDn`, one data byte follows (pressure). -/
def execAfterTouchChannel (n : BitVec 4) (s : State) : Host.Outcome State Fault Refusal := rxByte (byteOfNibbles 0xD#4 n) s

/-- R116: PitchBend, `b = 0xEn`, two data bytes follow (LSB, MSB), which the block does not combine. -/
def execPitchBend (n : BitVec 4) (s : State) : Host.Outcome State Fault Refusal := rxByte (byteOfNibbles 0xE#4 n) s

end Sys2Proof.Machine
end

