-- ==== Sys2Proof/Machine/DataBytes.lean ====
section
/-! DEFINITION. The data bytes (44_data_bytes.md). -/

namespace Sys2Proof.Machine

/-- R140, R141, R142: a data byte starts a running-status message at `FI = 0` with a channel-voice RS, is absorbed at `FI = 0` with
RS Invalid, and is the next byte of the pending message at `FI > 0`. -/
def execDataByte (d : BitVec 7) (s : State) : Host.Outcome State Fault Refusal := rxByte (byteOfSeven d) s

end Sys2Proof.Machine
end

