-- ==== Sys2Proof/Machine/PortOps.lean ====
section
/-! DEFINITION. The two operations without a byte: the consumer's TAKE (45_handoff_latch.md) and the platform's RESET
(70_reset_and_hazards.md). -/

namespace Sys2Proof.Machine

/-- R152: TAKE, "defined in every state" (R180). -/
def execTake (s : State) : Host.Outcome State Fault Refusal := .next (takeLatch s)

/-- R200: RESET, "the only operation that reinitialises the block" (R201). -/
def execReset (s : State) : Host.Outcome State Fault Refusal := .next (resetBlock s)

end Sys2Proof.Machine
end

