-- ==== Sys2Proof/Machine/SystemCommon.lean ====
section
/-! DEFINITION. The system-common and exclusive status bytes (42_system_common.md): the RX_BYTE step applied to one byte value each. None is
real-time, so at `FI > 0` every one follows MID_STATUS_POLICY (R99). -/

namespace Sys2Proof.Machine

/-- R120: SystemExclusive: absorbed at `FI = 0`; its body is not decoded. -/
def execSystemExclusive (s : State) : Host.Outcome State Fault Refusal := rxByte 0xF0#8 s

/-- R121: TimeCodeQuarterFrame, one data byte follows; completing it clears running status. -/
def execTimeCodeQuarterFrame (s : State) : Host.Outcome State Fault Refusal := rxByte 0xF1#8 s

/-- R122: SongPosition, two data bytes follow (LSB, MSB); completing it clears running status. -/
def execSongPosition (s : State) : Host.Outcome State Fault Refusal := rxByte 0xF2#8 s

/-- R123: SongSelect, one data byte follows (song number); completing it clears running status. -/
def execSongSelect (s : State) : Host.Outcome State Fault Refusal := rxByte 0xF3#8 s

/-- R124: the undefined status `0xF4`: absorbed at `FI = 0`. -/
def execUndefinedF4 (s : State) : Host.Outcome State Fault Refusal := rxByte 0xF4#8 s

/-- R125: the undefined status `0xF5`: absorbed at `FI = 0`. -/
def execUndefinedF5 (s : State) : Host.Outcome State Fault Refusal := rxByte 0xF5#8 s

/-- R126: TuneRequest, a 1-byte message that is not real-time; it leaves RS unchanged. -/
def execTuneRequest (s : State) : Host.Outcome State Fault Refusal := rxByte 0xF6#8 s

/-- R127: End-of-exclusive, classified Invalid (D7): absorbed at `FI = 0`. -/
def execUndefinedF7 (s : State) : Host.Outcome State Fault Refusal := rxByte 0xF7#8 s

end Sys2Proof.Machine
end

