-- ==== Sys2Proof/Machine/SystemRealTime.lean ====
section
/-! DEFINITION. The system real-time status bytes (43_system_realtime.md): the six defined ones are emitted at once in every decoder state
(R94 at `FI = 0`, R98 at `FI > 0`). -/

namespace Sys2Proof.Machine

/-- R130: Clock. -/
def execClock (s : State) : Host.Outcome State Fault Refusal := rxByte 0xF8#8 s

/-- R131: the undefined status `0xF9`, not real-time (U4): absorbed at `FI = 0`, MID_STATUS_POLICY at `FI > 0`. -/
def execUndefinedF9 (s : State) : Host.Outcome State Fault Refusal := rxByte 0xF9#8 s

/-- R132: Start. -/
def execStart (s : State) : Host.Outcome State Fault Refusal := rxByte 0xFA#8 s

/-- R133: Continue. -/
def execContinueMsg (s : State) : Host.Outcome State Fault Refusal := rxByte 0xFB#8 s

/-- R134: Stop. -/
def execStop (s : State) : Host.Outcome State Fault Refusal := rxByte 0xFC#8 s

/-- R135: the undefined status `0xFD`, as `0xF9` (U4). -/
def execUndefinedFD (s : State) : Host.Outcome State Fault Refusal := rxByte 0xFD#8 s

/-- R136: ActiveSensing; the block keeps no timeout for it (R212). -/
def execActiveSensing (s : State) : Host.Outcome State Fault Refusal := rxByte 0xFE#8 s

/-- R137: SystemReset, "a message to forward, not a reset of the block" (R201). -/
def execSystemReset (s : State) : Host.Outcome State Fault Refusal := rxByte 0xFF#8 s

end Sys2Proof.Machine
end

