-- ==== Sys2Proof/Machine/Dispatch.lean ====
section
/-! DEFINITION. The dispatch: one arm per constructor of Instr, each one call of its meaning. -/

namespace Sys2Proof.Machine

def exec (i : Instr) (s : State) : Host.Outcome State Fault Refusal :=
  match i with
  | .noteOff n => Sys2Proof.Machine.execNoteOff n s
  | .noteOn n => Sys2Proof.Machine.execNoteOn n s
  | .afterTouchPoly n => Sys2Proof.Machine.execAfterTouchPoly n s
  | .controlChange n => Sys2Proof.Machine.execControlChange n s
  | .programChange n => Sys2Proof.Machine.execProgramChange n s
  | .afterTouchChannel n => Sys2Proof.Machine.execAfterTouchChannel n s
  | .pitchBend n => Sys2Proof.Machine.execPitchBend n s
  | .systemExclusive => Sys2Proof.Machine.execSystemExclusive s
  | .timeCodeQuarterFrame => Sys2Proof.Machine.execTimeCodeQuarterFrame s
  | .songPosition => Sys2Proof.Machine.execSongPosition s
  | .songSelect => Sys2Proof.Machine.execSongSelect s
  | .undefinedF4 => Sys2Proof.Machine.execUndefinedF4 s
  | .undefinedF5 => Sys2Proof.Machine.execUndefinedF5 s
  | .tuneRequest => Sys2Proof.Machine.execTuneRequest s
  | .undefinedF7 => Sys2Proof.Machine.execUndefinedF7 s
  | .clock => Sys2Proof.Machine.execClock s
  | .undefinedF9 => Sys2Proof.Machine.execUndefinedF9 s
  | .start => Sys2Proof.Machine.execStart s
  | .continueMsg => Sys2Proof.Machine.execContinueMsg s
  | .stop => Sys2Proof.Machine.execStop s
  | .undefinedFD => Sys2Proof.Machine.execUndefinedFD s
  | .activeSensing => Sys2Proof.Machine.execActiveSensing s
  | .systemReset => Sys2Proof.Machine.execSystemReset s
  | .dataByte d => Sys2Proof.Machine.execDataByte d s
  | .take => Sys2Proof.Machine.execTake s
  | .reset => Sys2Proof.Machine.execReset s

end Sys2Proof.Machine
end

