-- ==== Sys2Proof/Machine/Environment.lean ====
section
/-! DEFINITION. The environment model (46_environment.md): the main loop, the Outbound Dispatcher, the Inbound Forwarder and the
activity indicators. It is not part of the block, and reaches it only through TAKE (R6, R160, R188). -/

namespace Sys2Proof.Machine

open Sys2Proof.Config

/-- The main loop goes on at this point of its iteration (R161). -/
def moveLoop (p : LoopPoint) (s : State) : State := { s with env := { s.env with loop := p } }

/-- `tx_count <- TICKS` (R162, R166). -/
def armTx (s : State) : State := { s with env := { s.env with txCount := s.params.ticks } }

/-- `rx_count <- TICKS` (R164, R166). -/
def armRx (s : State) : State := { s with env := { s.env with rxCount := s.params.ticks } }

/-- `send_packet(m[0], m[1], m[2], m[3])`, which returns `ok` (R162, R168). -/
def sendPacket (m : Packet) (ok : Bool) (s : State) : State :=
  { s with env := { s.env with usbSent := s.env.usbSent ++ [⟨m, ok⟩] } }

/-- `transmit_byte(b)` of each of these bytes in order, "direct, unbuffered" (R164, R168): they never enter the decoder. -/
def transmitBytes (bs : List Byte) (s : State) : State :=
  { s with env := { s.env with uartSent := s.env.uartSent ++ bs } }

/-- `DISPATCH()` (R162). If the channel is not ready nothing is taken. If `send_packet` returns an error the message is lost and the
indicator is armed anyway (R163, D24; notes/assumptions/13.md). DESIGN CHOICE: all of it is one step, so no RESET falls between the TAKE
and the send (notes/assumptions/22.md). -/
def dispatchTurn (d : Draws) (s : State) : State :=
  if d.channelReady then
    match s.hs.takeResult with
    | some m => armTx (sendPacket m d.sendOk (takeLatch s))
    | none => takeLatch s
  else s

/-- The payload bytes that `FORWARD()` writes: `p[1] .. p[n]`, with `n` by FORWARD_POLICY (R164, R165). -/
def payload (policy : ForwardPolicy) (p : Packet) : List Byte :=
  match policy with
  | .allThree => [p.data1, p.data2, p.data3]
  | .byLength => [p.data1, p.data2, p.data3].take (forwardLength p.data1)

/-- `FORWARD()` (R164). DESIGN CHOICE: all of it is one step, so no RESET falls between two of its `transmit_byte` calls and no part of a
payload is ever sent; R200 and D28 bar a RESET only inside an operation of the block (notes/assumptions/22.md). -/
def forwardTurn (d : Draws) (s : State) : State :=
  match d.received with
  | some p => armRx (transmitBytes (payload s.params.forwardPolicy p) s)
  | none => s

/-- `INDICATORS()` (R166): each counter that is not zero goes down by one. -/
def indicatorsTurn (s : State) : State :=
  { s with env := { s.env with txCount := s.env.txCount - 1, rxCount := s.env.rxCount - 1 } }

/-- `tx_on` (R167). -/
def txOn (s : State) : Bool := decide (0 < s.env.txCount)

/-- `rx_on` (R167). -/
def rxOn (s : State) : Bool := decide (0 < s.env.rxCount)

/-- The main loop's next move (R161). Each is one step; a byte may be received between any two of them (R160; notes/assumptions/8.md).
`usb_housekeeping()` is an external collaborator and reaches nothing the model holds (R6; notes/assumptions/14.md). -/
def mainLoopTurn (d : Draws) (s : State) : State :=
  match s.env.loop with
  | .top => moveLoop (if d.deviceConfigured then .dispatch else .indicators) s
  | .dispatch => moveLoop .forward (dispatchTurn d s)
  | .forward => moveLoop .indicators (forwardTurn d s)
  | .indicators => moveLoop .housekeeping (indicatorsTurn s)
  | .housekeeping => moveLoop .top s

/-- The boot that follows a RESET (R203): the main loop is at its top and the counters have their reset value (R166;
notes/assumptions/7.md). What was sent before stays sent. -/
def bootEnvironment (s : State) : State :=
  { s with env := { s.env with loop := .top, txCount := 0, rxCount := 0 } }

end Sys2Proof.Machine
end

