-- ==== Sys2Proof/Machine/Deliver.lean ====
section
/-! DEFINITION. How what the host does reaches the machine: the next event is fetched from `pending` (R46) and delivered, an operation
at the block's boundary as the instruction it decodes to (R4, R160). -/

namespace Sys2Proof.Machine

/-- The next event, and the state in which it happens: it no longer waits (R46, R47: none is lost, none is reordered). -/
def fetch (s : State) : Option (HostEvent × State) :=
  match s.pending with
  | [] => none
  | e :: rest => some (e, { s with pending := rest })

/-- The instruction of a port operation runs. -/
def runOp (o : PortOp) (s : State) : Host.Outcome State Fault Refusal := exec (decodeOp o) s

/-- What only happens in the MIDI persona: in the Serial persona "the block receives no RX_BYTE and no TAKE" (R33, D16) and none of
the main loop runs (R169). The serial bridge, which gets the bytes then, is out of scope (R9; notes/assumptions/5.md). -/
def inMidiPersona (run : State → Host.Outcome State Fault Refusal) (s : State) : Host.Outcome State Fault Refusal :=
  match s.mode with
  | .midi => run s
  | .serial => .next s

/-- RESET, and the boot that follows it (R200, R203). -/
def runReset (s : State) : Host.Outcome State Fault Refusal :=
  match runOp .reset s with
  | .next t => .next (bootEnvironment t)
  | .fault f => .fault f
  | .refused r => .refused r

/-- The main loop makes its next move (R161). -/
def runMainLoop (d : Draws) (s : State) : Host.Outcome State Fault Refusal := .next (mainLoopTurn d s)

/-- One event happens to the machine (R160). DESIGN CHOICE: in a state that fails INV only an RX_BYTE that reaches the block is refused;
every other event answers a next state there as elsewhere (R182, U8; notes/assumptions/6.md). -/
def deliver (e : HostEvent) (s : State) : Host.Outcome State Fault Refusal :=
  match e with
  | .op (.rx b) => inMidiPersona (runOp (.rx b)) s
  | .op .take => inMidiPersona (runOp .take) s
  | .op .reset => runReset s
  | .strap l => .next { s with strap := l }
  | .mainLoop d => inMidiPersona (runMainLoop d) s

/-- A byte is put where the next step reads its event, in the persona in which the block receives it (R33). -/
def withNextByte (b : Byte) (s : State) : State := { s with mode := .midi, pending := .op (.rx b) :: s.pending }

/-- The machine as the platform starts it (R200, R203): its parameters, the strap level that RESET samples, and what the host does
from then on. -/
def bootState (p : Config.Params) (l : Level) (events : List HostEvent) : State :=
  { State.reset with mode := samplePersona p l, strap := l, params := p, pending := events }

end Sys2Proof.Machine
end

