-- ==== Sys2Proof/Machine/Step.lean ====
section
/-! DEFINITION. One step of the machine: one atomic event (R5, R46). -/

namespace Sys2Proof.Machine

/-- One step: the next event of the host is delivered. Where the host does nothing, nothing changes: the block does nothing of its
own and "a partial message waits for its next byte forever" (R212; notes/assumptions/4.md). DESIGN CHOICE: both hold in a state that fails
INV too (R182, U8; notes/assumptions/6.md). -/
def step (s : State) : Host.Outcome State Fault Refusal :=
  match fetch s with
  | none => .next s
  | some (e, t) => deliver e t

/-- `s` with the instruction whose bits are `w` as the next event (notes/assumptions/4.md): an instruction with an encoding is one
byte, the low eight bits of `w`. -/
def State.withFetchWord (s : State) (_nbits w : Nat) : State := withNextByte (BitVec.ofNat 8 w) s

end Sys2Proof.Machine
end

