-- ==== Sys2Proof/Safety.lean ====
section
/-! DEFINITION. What is to hold of the machine at every step, and of its observation (R24, R28, R33, R48, R80 to R82, R154). -/

namespace Sys2Proof.Machine

open Sys2Proof.Config

/-- In the Serial persona the block's "state stays at its reset values" (R33, D16), and the main loop does not run (R169). -/
abbrev State.SerialQuiet (s : State) : Prop :=
  s.mode = .serial →
    s.pm = PendingMessage.empty ∧ s.fi = 0#2 ∧ s.el = 0#2 ∧ s.rs = rsInvalid ∧ s.hs = Latch.empty ∧
    s.env.loop = .top ∧ s.env.txCount = 0 ∧ s.env.rxCount = 0

/-- The indicators' counters never pass TICKS, which arms them (R166). -/
abbrev State.CountersBounded (s : State) : Prop :=
  s.env.txCount ≤ s.params.ticks ∧ s.env.rxCount ≤ s.params.ticks

/-- What every state of the machine satisfies: INV of R24, legal parameters (R11), the quiet Serial persona (R33, R169) and the
counters' bound (R166). -/
abbrev State.Inv (s : State) : Prop :=
  s.DecoderInv ∧ s.params.wf = true ∧ s.SerialQuiet ∧ s.CountersBounded

/-- What one entry of the observation does to the latch: a write fills it, a TAKE empties it, a RESET puts it in its reset state. -/
def latchAfter (h : Latch) : TraceEvent → Latch
  | .wrote p => h.write p
  | .took _ => h.clear
  | .wasReset _ => Latch.empty

/-- What an observation, oldest first, makes of a latch. -/
def replay (h : Latch) (t : List TraceEvent) : Latch := t.foldl latchAfter h

/-- Every TAKE of an observation that starts from this latch returned what the latch then held (R151, R152, R154). -/
def takesReturnHeld : Latch → List TraceEvent → Prop
  | _, [] => True
  | h, .wrote p :: t => takesReturnHeld (h.write p) t
  | h, .took r :: t => r = h.takeResult ∧ takesReturnHeld h.clear t
  | _, .wasReset _ :: t => takesReturnHeld Latch.empty t

/-- The latch is what its observed history makes of it, from the reset latch on, and every TAKE in that history returned what the
latch held (R25, R26, R151, R152). -/
def State.TraceInv (s : State) : Prop :=
  replay Latch.empty s.trace = s.hs ∧ takesReturnHeld Latch.empty s.trace

/-- The packets written, in order (R28, "the sequence of latch writes"). -/
def writesOf : List TraceEvent → List Packet
  | [] => []
  | .wrote p :: t => p :: writesOf t
  | .took _ :: t => writesOf t
  | .wasReset _ :: t => writesOf t

/-- The packets returned by TAKE, in order. -/
def returnedOf : List TraceEvent → List Packet
  | [] => []
  | .wrote _ :: t => returnedOf t
  | .took (some p) :: t => p :: returnedOf t
  | .took none :: t => returnedOf t
  | .wasReset _ :: t => returnedOf t

/-- The format of a CompleteMessage under given parameters: the event byte of Data1 (R81), cable number 0 (R80), a status byte with a
length in Data1 (R71), exact zero fill (R82), and data bytes in the other places unless StoreAsData puts a status byte there (R99). -/
abbrev PacketOk (p : Params) (m : Packet) : Prop :=
  m.event = eventByte p.eventCodePolicy m.data1 ∧
  highNibble m.event = 0#4 ∧
  (len (typeOf m.data1) = some 1 ∧ m.data2 = 0x00#8 ∧ m.data3 = 0x00#8 ∨
   len (typeOf m.data1) = some 2 ∧ m.data3 = 0x00#8 ∨
   len (typeOf m.data1) = some 3) ∧
  (p.midStatusPolicy ≠ .storeAsData → isData m.data2 = true ∧ isData m.data3 = true)

/-- Every packet the block has written has the format of a CompleteMessage (R80 to R82). -/
def State.PacketsOk (s : State) : Prop := ∀ m, .wrote m ∈ s.trace → PacketOk s.params m

/-- Two states that differ at most in what is never observable: PM at the indices from FI on, and HS.msg while HS.valid is 0 (R28, U5). -/
def State.SameObservable (s u : State) : Prop :=
  (∀ i < s.fi.toNat, s.pm.read i = u.pm.read i) ∧ s.fi = u.fi ∧ s.el = u.el ∧ s.rs = u.rs ∧
  s.hs.takeResult = u.hs.takeResult ∧ s.mode = u.mode ∧ s.strap = u.strap ∧ s.params = u.params ∧
  s.env = u.env ∧ s.trace = u.trace ∧ s.pending = u.pending

/-- The states a run reaches, from any boot, whatever the host does (R24, R46, R203). -/
inductive Reachable : State → Prop where
  /-- A boot with legal parameters, at any strap level, before anything the host does. -/
  | boot (p : Params) (l : Level) (events : List HostEvent) (hp : p.wf = true) : Reachable (bootState p l events)
  /-- A step that answers a next state. -/
  | step {s t : State} (hs : Reachable s) (ht : step s = .next t) : Reachable t

end Sys2Proof.Machine
end

