-- ==== Sys2Proof/Certificates/Slice0/Obligations.lean ====
section
/-! DEFINITION. The statements for the provers. An equality `exec i s = .next t` says the whole next state: every register, the latch,
the observation, the environment and the pending events that `t` takes over from `s` are unchanged. -/

open Sys2Proof Sys2Proof.Machine

/-! ### Encoding and classification -/

/-- Words written out from the encoding column of opcode_table.json decode to the instructions they stand for. Several of the values are
the spec's, from general knowledge (93 G1; notes/assumptions/12.md). -/
def Obligations.WrittenWordsDecode : Prop :=
  decodeByte 0b10000010#8 = .noteOff 0b0010#4 ∧
  decodeByte 0b10010001#8 = .noteOn 0b0001#4 ∧
  decodeByte 0b11000000#8 = .programChange 0b0000#4 ∧
  decodeByte 0b11101111#8 = .pitchBend 0b1111#4 ∧
  decodeByte 0b11110010#8 = .songPosition ∧
  decodeByte 0b11110111#8 = .undefinedF7 ∧
  decodeByte 0b11111000#8 = .clock ∧
  decodeByte 0b11111101#8 = .undefinedFD ∧
  decodeByte 0b00111100#8 = .dataByte 0b0111100#7 ∧
  decodeTableWord 8 0b10110111 = some (.controlChange 0b0111#4) ∧
  decodeBytes [] = .error .noByte

/-- Decoding and encoding agree for every instruction with every operand, and for every port operation: no bit is dropped, and no two
instructions share an encoding (R4, R60, R61, R84). -/
def Obligations.DecodeEncodeAgree : Prop :=
  (∀ i : Instr, i.wf = true → decodeOp (encodeOp i) = i) ∧
  (∀ o : PortOp, encodeOp (decodeOp o) = o) ∧
  (∀ (i : Instr) (rest : List Byte), encode i ≠ [] → decodeBytes (encode i ++ rest) = .ok (i, rest))

/-- Every byte matches exactly one row of the opcode table, the row of the instruction it decodes to (R63, R72). -/
def Obligations.EveryByteMatchesOneRow : Prop :=
  ∀ b : Byte, rowMnemonics (.rx b) = [mnemonic (decodeByte b)]

/-- The classifier, the length table and the two predicates agree with the columns of the opcode table (R63, R64, R65, R70). -/
def Obligations.ClassifierFollowsOpcodeTable : Prop :=
  ∀ b : Byte, ∀ r ∈ opcodeRows, r.matchesByte b = true →
    (classify b).1 = r.category ∧ len (typeOf b) = r.length ∧ isRt b = r.realTime ∧ isCv b = r.setsRunningStatus

/-- `is_cv` by its bits and by the category, `is_rt` by the category, and the data bytes by their top bit (R60, R61, R64, R65). -/
def Obligations.PredicatesMatchCategories : Prop :=
  ∀ b : Byte,
    (isCv b = true ↔ b.getLsbD 7 = true ∧ highNibble b ≠ 0xF#4) ∧
    (isCv b = true ↔ (classify b).1 = .channelVoice) ∧
    (isRt b = true ↔ (classify b).1 = .systemRealTime) ∧
    (isData b = true ↔ b.getLsbD 7 = false) ∧
    (isData b = true → (classify b).1 = .invalid)

/-- The event byte (R81): the two policies agree on channel-voice and real-time bytes, and give these values on the four system-common
bytes they differ on. The values of UsbMidiCin are the spec's choice (D10, 93 G3; notes/assumptions/12.md). -/
def Obligations.EventByteUnderBothPolicies : Prop :=
  (∀ s : Byte, isCv s = true ∨ isRt s = true →
    eventByte .typeNibble s = eventByte .usbMidiCin s ∧ (eventByte .typeNibble s).toNat = s.toNat / 16) ∧
  (∀ s : Byte, isRt s = true → eventByte .usbMidiCin s = 0x0F#8) ∧
  (∀ s ∈ [0xF1#8, 0xF2#8, 0xF3#8, 0xF6#8], eventByte .typeNibble s = 0x0F#8) ∧
  eventByte .usbMidiCin 0xF1#8 = 0x02#8 ∧ eventByte .usbMidiCin 0xF2#8 = 0x03#8 ∧
  eventByte .usbMidiCin 0xF3#8 = 0x02#8 ∧ eventByte .usbMidiCin 0xF6#8 = 0x05#8

/-- The 32-bit view of a packet puts byte k at bits 8k+7..8k and loses nothing (R43). The view is the spec's choice (D27;
notes/assumptions/18.md). -/
def Obligations.PacketOn32BitPort : Prop :=
  (∀ (p : Packet) (k : Fin 4), some ((packetWord32 p).extractLsb' (8 * k.val) 8) = (packetBytes p)[k.val]?) ∧
  (∀ p : Packet, packetOfWord32 (packetWord32 p) = p)

/-! ### What the byte instructions do at message start -/

namespace Sys2Proof.Machine.Expected

/-- The state after a message of length `n` was started by the status byte `b`. -/
def started (b : Byte) (n : BitVec 2) (s : State) : State :=
  { s with pm := { s.pm with b0 := b }, fi := 1#2, el := n }

/-- The state after the byte `b` was absorbed at message start. -/
def absorbed (b : Byte) (s : State) : State :=
  { s with pm := { s.pm with b0 := b }, el := 0#2, rs := bif s.params.absorbClearsRs then rsInvalid else s.rs }

/-- The packet whose event byte is the one of `d1`. -/
def packet (s : State) (d1 d2 d3 : Byte) : Packet := ⟨eventByte s.params.eventCodePolicy d1, d1, d2, d3⟩

/-- The state after the packet `p` was written into the latch: whatever the latch held is lost. -/
def emitted (p : Packet) (s : State) : State := { s with hs := ⟨true, p⟩, trace := s.trace ++ [.wrote p] }

/-- The state with the pending message empty and none in progress. -/
def ended (s : State) : State := { s with pm := PendingMessage.empty, fi := 0#2, el := 0#2 }

/-- The six real-time instructions with their bytes. -/
def realTime : List (Instr × Byte) :=
  [(.clock, 0xF8#8), (.start, 0xFA#8), (.continueMsg, 0xFB#8), (.stop, 0xFC#8), (.activeSensing, 0xFE#8), (.systemReset, 0xFF#8)]

/-- The instructions that are 1-byte messages, with their bytes: the real-time ones and TuneRequest (R70). -/
def oneByte : List (Instr × Byte) := (.tuneRequest, 0xF6#8) :: realTime

end Sys2Proof.Machine.Expected

open Sys2Proof.Machine.Expected

/-- At message start each of the ten status bytes of a 2- or 3-byte message starts one: `PM[0] <- b`, `EL <- len`, `FI <- 1`, and nothing
else changes (41_channel_voice.md, R110 to R116; R121 to R123). Several byte values are the spec's, from general knowledge (93 G1). -/
def Obligations.StatusByteStartsMessage : Prop :=
  ∀ s : State, s.DecoderInv → s.fi = 0#2 →
    (∀ n : BitVec 4,
      exec (.noteOff n) s = .next (started (0x8#4 ++ n) 3#2 s) ∧
      exec (.noteOn n) s = .next (started (0x9#4 ++ n) 3#2 s) ∧
      exec (.afterTouchPoly n) s = .next (started (0xA#4 ++ n) 3#2 s) ∧
      exec (.controlChange n) s = .next (started (0xB#4 ++ n) 3#2 s) ∧
      exec (.programChange n) s = .next (started (0xC#4 ++ n) 2#2 s) ∧
      exec (.afterTouchChannel n) s = .next (started (0xD#4 ++ n) 2#2 s) ∧
      exec (.pitchBend n) s = .next (started (0xE#4 ++ n) 3#2 s)) ∧
    exec .timeCodeQuarterFrame s = .next (started 0xF1#8 2#2 s) ∧
    exec .songPosition s = .next (started 0xF2#8 3#2 s) ∧
    exec .songSelect s = .next (started 0xF3#8 2#2 s)

/-- R96: a fresh status byte of length 2 or 3 leaves `FI = 1` and `EL = len`; a running-status data byte with `EL = 3` leaves `FI = 2`;
nothing is emitted and the message waits. -/
def Obligations.IncompleteMessageWaits : Prop :=
  ∀ (s : State) (i : Instr) (b : Byte), s.DecoderInv → s.fi = 0#2 → encodeOp i = .rx b →
    (∀ n : Nat, len (typeOf b) = some n → n = 2 ∨ n = 3 →
      ∃ t, exec i s = .next t ∧ t.fi = 1#2 ∧ t.el.toNat = n ∧ t.pm.b0 = b ∧ t.rs = s.rs ∧ t.hs = s.hs ∧ t.trace = s.trace) ∧
    (isCv s.rs = true → isData b = true → len (typeOf s.rs) = some 3 →
      ∃ t, exec i s = .next t ∧ t.fi = 2#2 ∧ t.el = 3#2 ∧ t.rs = s.rs ∧ t.hs = s.hs ∧ t.trace = s.trace)

/-- At message start the six status bytes without a length are absorbed: nothing is emitted, FI stays 0, EL is 0, PM[0] holds the byte,
and RS is unchanged unless ABSORB_CLEARS_RS (R93, R120, R124, R125, R127, R131, R135). The RS clause and the state left are the spec's
choices (D8, D11; notes/assumptions/21.md), and so are `0xF0` and `0xF7` (93 G1, D7). -/
def Obligations.LengthlessStatusAbsorbed : Prop :=
  ∀ s : State, s.DecoderInv → s.fi = 0#2 →
    exec .systemExclusive s = .next (absorbed 0xF0#8 s) ∧
    exec .undefinedF4 s = .next (absorbed 0xF4#8 s) ∧
    exec .undefinedF5 s = .next (absorbed 0xF5#8 s) ∧
    exec .undefinedF7 s = .next (absorbed 0xF7#8 s) ∧
    exec .undefinedF9 s = .next (absorbed 0xF9#8 s) ∧
    exec .undefinedFD s = .next (absorbed 0xFD#8 s)

/-- R94: at message start a byte of a 1-byte message (the six real-time bytes and TuneRequest, and no other byte) is emitted with zero
fill; FI and EL are 0, PM is empty, RS and everything else are unchanged. The byte values and how an empty PM is encoded are the spec's
choices (93 G1, D5; notes/assumptions/12.md, 11.md). -/
def Obligations.OneByteMessageAtStart : Prop :=
  (∀ s : State, s.DecoderInv → s.fi = 0#2 → ∀ ib ∈ oneByte,
    exec ib.1 s = .next (ended (emitted (packet s ib.2 0x00#8 0x00#8) s))) ∧
  (∀ b : Byte, len (typeOf b) = some 1 ↔ b ∈ oneByte.map Prod.snd) ∧
  (∀ r : Byte, isCv r = true → len (typeOf r) = some 2 ∨ len (typeOf r) = some 3)

/-- R98: mid-message each of the six real-time bytes is emitted and nothing else changes: PM, FI, EL and RS keep their values, so that
SystemReset resets nothing (R137, R201). That EL keeps its value is the spec's choice (D26; notes/assumptions/21.md). -/
def Obligations.RealTimeMidMessage : Prop :=
  ∀ s : State, s.DecoderInv → s.fi ≠ 0#2 → ∀ ib ∈ realTime,
    exec ib.1 s = .next (emitted (packet s ib.2 0x00#8 0x00#8) s)

/-! ### Data bytes -/

/-- R140: a data byte at `FI = 0` with a channel-voice RS starts a running-status message: of a 2-byte type it is complete at once, of a
3-byte type it waits for its second data byte. How an empty PM is encoded is the spec's choice (D5; notes/assumptions/11.md). -/
def Obligations.RunningStatusDataByte : Prop :=
  ∀ (s : State) (d : BitVec 7), s.DecoderInv → s.fi = 0#2 → isCv s.rs = true →
    (len (typeOf s.rs) = some 2 →
      exec (.dataByte d) s = .next (ended (emitted (packet s s.rs (0#1 ++ d) 0x00#8) s))) ∧
    (len (typeOf s.rs) = some 3 →
      exec (.dataByte d) s = .next { s with pm := ⟨s.rs, 0#1 ++ d, s.pm.b2⟩, fi := 2#2, el := 3#2 }) ∧
    (len (typeOf s.rs) = some 2 ∨ len (typeOf s.rs) = some 3)

/-- R141: a data byte at `FI = 0` with RS Invalid is absorbed, whatever ABSORB_CLEARS_RS: only PM[0] changes, EL and RS keep 0 and
Invalid. What is left in PM and the encoding of Invalid are the spec's choices (D11, D4; notes/assumptions/21.md, 11.md). -/
def Obligations.StrayDataByteAbsorbed : Prop :=
  ∀ (s : State) (d : BitVec 7), s.DecoderInv → s.fi = 0#2 → s.rs = rsInvalid →
    exec (.dataByte d) s = .next { s with pm := { s.pm with b0 := 0#1 ++ d } } ∧ s.el = 0#2

/-- R142: a data byte at `FI > 0` is stored at `PM[FI]`; the last one completes the message, sets RS to a channel-voice status and clears
it otherwise; the first of two leaves `FI = 2`. The three cases are all there are. How empty and Invalid are encoded are the spec's choices
(D5, D4; notes/assumptions/11.md). -/
def Obligations.PendingDataByte : Prop :=
  ∀ (s : State) (d : BitVec 7), s.DecoderInv → s.fi ≠ 0#2 →
    let rs' := if isCv s.pm.b0 then s.pm.b0 else rsInvalid
    (s.fi = 1#2 → s.el = 2#2 →
      exec (.dataByte d) s = .next { ended (emitted (packet s s.pm.b0 (0#1 ++ d) 0x00#8) s) with rs := rs' }) ∧
    (s.fi = 2#2 → s.el = 3#2 →
      exec (.dataByte d) s = .next { ended (emitted (packet s s.pm.b0 s.pm.b1 (0#1 ++ d)) s) with rs := rs' }) ∧
    (s.fi = 1#2 → s.el = 3#2 →
      exec (.dataByte d) s = .next { s with pm := { s.pm with b1 := 0#1 ++ d }, fi := 2#2 }) ∧
    (s.fi = 1#2 ∧ s.el = 2#2 ∨ s.fi = 2#2 ∧ s.el = 3#2 ∨ s.fi = 1#2 ∧ s.el = 3#2)

/-! ### Status bytes mid-message, and refusals -/

/-- R99: mid-message a status byte that is not real-time (each of the seventeen such classes) follows MID_STATUS_POLICY: AbortRestart drops
the pending message and does what the byte does at message start; Ignore changes nothing; StoreAsData stores the byte as the next data
byte, completing the message where it is the last. The policy and its default are the spec's choice (D9; notes/assumptions/21.md). -/
def Obligations.MidMessageStatusByPolicy : Prop :=
  ∀ (s : State) (i : Instr) (b : Byte), s.DecoderInv → s.fi ≠ 0#2 → encodeOp i = .rx b → isStatus b = true → isRt b = false →
    let rs' := if isCv s.pm.b0 then s.pm.b0 else rsInvalid
    (s.params.midStatusPolicy = .abortRestart → exec i s = exec i (ended s) ∧ ∃ t, exec i s = .next t) ∧
    (s.params.midStatusPolicy = .ignore → exec i s = .next s) ∧
    (s.params.midStatusPolicy = .storeAsData →
      (s.fi = 1#2 → s.el = 2#2 → exec i s = .next { ended (emitted (packet s s.pm.b0 b 0x00#8) s) with rs := rs' }) ∧
      (s.fi = 2#2 → s.el = 3#2 → exec i s = .next { ended (emitted (packet s s.pm.b0 s.pm.b1 b) s) with rs := rs' }) ∧
      (s.fi = 1#2 → s.el = 3#2 → exec i s = .next { s with pm := { s.pm with b1 := b }, fi := 2#2 }))

/-- R24, R182, U8: a byte is refused in exactly the states that fail INV. That such a state is refused is the spec's advice to a model
(notes/assumptions/6.md). -/
def Obligations.ByteRefusedExactlyOutsideInv : Prop :=
  ∀ (s : State) (i : Instr) (b : Byte), encodeOp i = .rx b →
    (exec i s = .refused .outsideInvariant ↔ ¬ s.DecoderInv)

/-- R180: no exception exists, every byte value in every reachable state has a defined step, and TAKE is defined in every state. Beyond the
rule: every instruction, with every operand, answers a next state in every state that meets INV, and RESET does in every state. -/
def Obligations.EveryInstructionCompletes : Prop :=
  (∀ (s : State) (i : Instr) (f : Fault), exec i s ≠ .fault f) ∧
  (∀ (s : State) (b : Byte), Reachable s → ∃ t, exec (decodeByte b) s = .next t) ∧
  (∀ s : State, ∃ t, exec .take s = .next t) ∧
  (∀ s : State, ∃ t, exec .reset s = .next t) ∧
  (∀ (s : State) (i : Instr), s.DecoderInv → ∃ t, exec i s = .next t)

/-! ### TAKE and RESET -/

/-- R50: TAKE is an atomic exchange of HS.valid with 0 that returns HS.msg when the old value was 1, and always completes. HS.msg and
everything else are unchanged; that HS.msg keeps its bytes is the spec's choice (D25; notes/assumptions/21.md). -/
def Obligations.TakeIsAtomicExchange : Prop :=
  ∀ s : State,
    exec .take s = .next { s with hs := ⟨false, s.hs.msg⟩,
                                  trace := s.trace ++ [.took (if s.hs.valid then some s.hs.msg else none)] }

/-- R45: of two TAKEs with no emission between them, the second returns Empty. -/
def Obligations.SecondTakeReturnsEmpty : Prop :=
  ∀ s : State, ∃ t u, exec .take s = .next t ∧ exec .take t = .next u ∧ u.trace = t.trace ++ [.took none] ∧ u.hs = t.hs

/-- R200: RESET from any state, whatever it was. The parameters, the strap, the environment and the pending events are not the block's and
stay. The values of EL, of the latch and the encodings of empty and Invalid are the spec's choices (D3 to D6; notes/assumptions/11.md). -/
def Obligations.ResetPutsBlockInResetState : Prop :=
  ∀ s : State,
    let m : Persona := if s.strap = s.params.strapMidiLevel then .midi else .serial
    exec .reset s = .next { State.reset with
      mode := m, strap := s.strap, params := s.params, env := s.env, pending := s.pending,
      trace := s.trace ++ [.wasReset m] }

/-! ### Frames -/

/-- R104 and R27: a byte instruction emits at most one message. Either the latch and the observation are unchanged, or exactly one packet
was written and the latch holds it. MODE, the strap, the parameters, the environment and the pending events are unchanged. -/
def Obligations.ByteInstructionFrame : Prop :=
  ∀ (s t : State) (i : Instr) (b : Byte), encodeOp i = .rx b → exec i s = .next t →
    ((t.hs = s.hs ∧ t.trace = s.trace) ∨ ∃ p, t.hs = ⟨true, p⟩ ∧ t.trace = s.trace ++ [.wrote p]) ∧
    t.mode = s.mode ∧ t.strap = s.strap ∧ t.params = s.params ∧ t.env = s.env ∧ t.pending = s.pending

/-- R6: no port of the block reads or writes PM, FI, EL or RS except RX_BYTE and RESET, and the latch is all that the two agents share. A
step that takes any other event leaves the four registers as they were; TAKE and every turn of the main loop do the same to the rest of the
state whatever the four registers hold; a byte leaves the main loop's state as it was. -/
def Obligations.OnlyBytesAndResetReachDecoder : Prop :=
  (∀ (s t : State) (e : HostEvent) (rest : List HostEvent), s.pending = e :: rest → step s = .next t →
    (∀ b, e ≠ .op (.rx b)) → e ≠ .op .reset → t.pm = s.pm ∧ t.fi = s.fi ∧ t.el = s.el ∧ t.rs = s.rs) ∧
  (∀ (s t : State) (pm : PendingMessage) (fi el : BitVec 2) (rs : Byte), exec .take s = .next t →
    exec .take { s with pm := pm, fi := fi, el := el, rs := rs } = .next { t with pm := pm, fi := fi, el := el, rs := rs }) ∧
  (∀ (s : State) (d : Draws) (pm : PendingMessage) (fi el : BitVec 2) (rs : Byte),
    mainLoopTurn d { s with pm := pm, fi := fi, el := el, rs := rs }
      = { mainLoopTurn d s with pm := pm, fi := fi, el := el, rs := rs }) ∧
  (∀ (s t : State) (i : Instr) (b : Byte) (env : Environment), encodeOp i = .rx b → exec i s = .next t →
    t.env = s.env ∧ exec i { s with env := env } = .next { t with env := env })

/-- R105: RS is written only at a completion, by the absorption (R93) of a byte without a length where ABSORB_CLEARS_RS, and by RESET. The
spec derives it. -/
def Obligations.RunningStatusWriters : Prop :=
  ∀ (s t : State) (i : Instr), exec i s = .next t → t.rs ≠ s.rs →
    (s.fi ≠ 0#2 ∧ t.fi = 0#2 ∧ (∃ p, t.trace = s.trace ++ [.wrote p] ∧ p.data1 = s.pm.b0) ∧
      t.rs = if isCv s.pm.b0 then s.pm.b0 else rsInvalid) ∨
    (s.params.absorbClearsRs = true ∧ (∃ b, encodeOp i = .rx b ∧ len (typeOf b) = none) ∧
      t.rs = rsInvalid ∧ t.fi = 0#2 ∧ t.el = 0#2 ∧ t.hs = s.hs ∧ t.trace = s.trace) ∨
    (i = .reset ∧ t.rs = rsInvalid)

/-- R33, R34: no step changes the parameters; only RESET writes MODE, from the strap; only the platform moves the strap, and in either
persona that changes the strap and nothing else (R4 MODE). That MODE is sampled at RESET and nowhere else is the spec's choice (D15;
notes/assumptions/2.md), and that the pin may move at any time is the model's reading (notes/assumptions/17.md).
That a step with a strap event answers outside INV too is the model's choice (notes/assumptions/6.md). -/
def Obligations.ConfigurationIsFixed : Prop :=
  (∀ s t : State, step s = .next t →
    t.params = s.params ∧
    ((∀ l, s.pending.head? ≠ some (.strap l)) → t.strap = s.strap) ∧
    (s.pending.head? ≠ some (.op .reset) → t.mode = s.mode) ∧
    (s.pending.head? = some (.op .reset) → t.mode = if s.strap = s.params.strapMidiLevel then .midi else .serial)) ∧
  (∀ (s : State) (l : Level) (rest : List HostEvent), s.pending = .strap l :: rest →
    step s = .next { s with strap := l, pending := rest })

/-! ### Whole messages -/

/-- §8, second property (W2): from any state at message start, a status byte of a 3-byte channel-voice class and two data bytes emit exactly
`(status >> 4, status, d1, d2)`, and RS becomes the status. Which bytes those are is the spec's (C8, 93 G1). -/
def Obligations.ThreeByteMessageAssembles : Prop :=
  ∀ (s : State) (n : BitVec 4) (d1 d2 : BitVec 7), s.DecoderInv → s.fi = 0#2 →
    ∀ ih ∈ [(Instr.noteOff n, 0x8#4), (.noteOn n, 0x9#4), (.afterTouchPoly n, 0xA#4), (.controlChange n, 0xB#4), (.pitchBend n, 0xE#4)],
      ∃ t u, exec ih.1 s = .next t ∧ exec (.dataByte d1) t = .next u ∧
        exec (.dataByte d2) u = .next { ended (emitted ⟨0#4 ++ ih.2, ih.2 ++ n, 0#1 ++ d1, 0#1 ++ d2⟩ s) with rs := ih.2 ++ n }

/-- §8, sixth property (W6), and R114, R115: a 2-byte channel-voice message zero-fills Data3, and a further data byte is at once another
message of the same status. Which bytes those are is the spec's (93 G1). -/
def Obligations.TwoByteMessageAssembles : Prop :=
  ∀ (s : State) (n : BitVec 4) (d d' : BitVec 7), s.DecoderInv → s.fi = 0#2 →
    ∀ ih ∈ [(Instr.programChange n, 0xC#4), (.afterTouchChannel n, 0xD#4)],
      ∃ t u, exec ih.1 s = .next t ∧ exec (.dataByte d) t = .next u ∧
        u = { ended (emitted ⟨0#4 ++ ih.2, ih.2 ++ n, 0#1 ++ d, 0x00#8⟩ s) with rs := ih.2 ++ n } ∧
        exec (.dataByte d') u = .next (emitted ⟨0#4 ++ ih.2, ih.2 ++ n, 0#1 ++ d', 0x00#8⟩ u)

/-- §8, third property (W3), R74: under a running status of a 3-byte type two data bytes are a message of that status. -/
def Obligations.RunningStatusExpands : Prop :=
  ∀ (s : State) (d1 d2 : BitVec 7), s.DecoderInv → s.fi = 0#2 → isCv s.rs = true → len (typeOf s.rs) = some 3 →
    ∃ t, exec (.dataByte d1) s = .next t ∧ t.trace = s.trace ∧
      exec (.dataByte d2) t = .next (ended (emitted (packet s s.rs (0#1 ++ d1) (0#1 ++ d2)) s))

/-- R121 to R123, R101: a complete system-common message of 2 or 3 bytes clears running status, and its event byte is by EVENT_CODE_POLICY
(R81). The 1-byte TuneRequest keeps running status (R94, R126; Obligations.OneByteMessageAtStart). The byte values and the policy are the
spec's (93 G1, G3, D10; notes/assumptions/12.md, 21.md). -/
def Obligations.MultiByteSystemCommonClearsRunningStatus : Prop :=
  ∀ (s : State) (d1 d2 : BitVec 7), s.DecoderInv → s.fi = 0#2 →
    let ev := fun cin : Byte => if s.params.eventCodePolicy = .typeNibble then 0x0F#8 else cin
    (∀ ib ∈ [(Instr.timeCodeQuarterFrame, 0xF1#8), (.songSelect, 0xF3#8)],
      ∃ t, exec ib.1 s = .next t ∧
        exec (.dataByte d1) t = .next { ended (emitted ⟨ev 0x02#8, ib.2, 0#1 ++ d1, 0x00#8⟩ s) with rs := rsInvalid }) ∧
    (∃ t u, exec .songPosition s = .next t ∧ exec (.dataByte d1) t = .next u ∧
      exec (.dataByte d2) u = .next { ended (emitted ⟨ev 0x03#8, 0xF2#8, 0#1 ++ d1, 0#1 ++ d2⟩ s) with rs := rsInvalid })

/-- §8, fourth property (W4), R98: mid-message a real-time byte leaves the interrupted message to resume: whatever instruction comes next
does to PM, FI, EL and RS, and observes, exactly what it would have without the real-time byte. -/
def Obligations.RealTimeInterleaves : Prop :=
  ∀ (s : State) (j : Instr) (b : Byte), s.DecoderInv → s.fi ≠ 0#2 → encodeOp j = .rx b → ∀ ib ∈ realTime,
    ∃ t u v more, exec ib.1 s = .next t ∧ exec j t = .next u ∧ exec j s = .next v ∧
      u.pm = v.pm ∧ u.fi = v.fi ∧ u.el = v.el ∧ u.rs = v.rs ∧
      v.trace = s.trace ++ more ∧ u.trace = s.trace ++ [.wrote (packet s ib.2 0x00#8 0x00#8)] ++ more

/-- R154: if two emissions happen with no TAKE between them, a later TAKE returns only the second message, and the one after it Empty: the
first is gone and nothing records its loss. The first clause is about any two emissions that follow each other in the observation, whatever
happened between them that is not observed; the second about two instructions in a row, from any state. -/
def Obligations.OverwriteLosesFirstMessage : Prop :=
  (∀ (s : State) (before : List TraceEvent) (p q : Packet), s.TraceInv → s.trace = before ++ [.wrote p, .wrote q] →
    ∃ v w, exec .take s = .next v ∧ v.trace = s.trace ++ [.took (some q)] ∧
      exec .take v = .next w ∧ w.trace = v.trace ++ [.took none]) ∧
  (∀ (s t u : State) (i j : Instr) (b c : Byte) (p q : Packet), encodeOp i = .rx b → encodeOp j = .rx c →
    exec i s = .next t → t.trace = s.trace ++ [.wrote p] → exec j t = .next u → u.trace = t.trace ++ [.wrote q] →
    ∃ v w, exec .take u = .next v ∧ v.trace = u.trace ++ [.took (some q)] ∧
      exec .take v = .next w ∧ w.trace = v.trace ++ [.took none])

/-- R156: what a byte instruction does to PM, FI, EL and RS, and what it emits, depends on those registers and the parameters alone: not on
the latch, nor on the persona, the environment, the observation or what is pending. An emission never waits for the latch. -/
def Obligations.DecoderIgnoresLatch : Prop :=
  ∀ (s s' t : State) (i : Instr) (b : Byte), encodeOp i = .rx b →
    s.pm = s'.pm → s.fi = s'.fi → s.el = s'.el → s.rs = s'.rs → s.params = s'.params → exec i s = .next t →
    ∃ t' more, exec i s' = .next t' ∧ t.pm = t'.pm ∧ t.fi = t'.fi ∧ t.el = t'.el ∧ t.rs = t'.rs ∧
      t.trace = s.trace ++ more ∧ t'.trace = s'.trace ++ more ∧
      (more = [] → t.hs = s.hs ∧ t'.hs = s'.hs) ∧ (more ≠ [] → t.hs = t'.hs)

/-! ### The step -/

/-- A step runs the decoded instruction on the state in which the event no longer waits; RESET is followed by the boot of the environment
(the model's reading of R203, notes/assumptions/7.md); with nothing pending nothing changes (notes/assumptions/4.md).
That the idle step answers outside INV too is the model's choice (notes/assumptions/6.md). -/
def Obligations.StepRunsDecodedInstruction : Prop :=
  ∀ (s : State) (rest : List HostEvent),
    (∀ b, s.mode = .midi → s.pending = .op (.rx b) :: rest → step s = exec (decodeByte b) { s with pending := rest }) ∧
    (s.mode = .midi → s.pending = .op .take :: rest → step s = exec .take { s with pending := rest }) ∧
    (s.pending = .op .reset :: rest → ∃ t, exec .reset { s with pending := rest } = .next t ∧
      step s = .next { t with env := { t.env with loop := .top, txCount := 0, rxCount := 0 } }) ∧
    (s.pending = [] → step s = .next s) ∧
    (∀ w, step (s.withFetchWord 8 w) = exec (decodeByte (BitVec.ofNat 8 w)) { s with mode := .midi })

/-- R33, R169: in the Serial persona a byte, a TAKE and a turn of the main loop do nothing to the machine. That the block then receives no
operation is the spec's choice (D16; notes/assumptions/5.md).
That such a step answers outside INV too is the model's choice (notes/assumptions/6.md). -/
def Obligations.SerialPersonaIsQuiet : Prop :=
  ∀ (s : State) (e : HostEvent) (rest : List HostEvent), s.mode = .serial → s.pending = e :: rest →
    e ≠ .op .reset → (∀ l, e ≠ .strap l) → step s = .next { s with pending := rest }

/-- R47, R184: where a byte and a TAKE are ready together both orders are admitted, neither is lost, the decoder ends the same, and the
TAKE returns what the latch holds at its turn. That either order may happen is the spec's choice (D20; notes/assumptions/3.md). -/
def Obligations.BothOrdersAdmitted : Prop :=
  ∀ (s : State) (b : Byte) (rest : List HostEvent), s.DecoderInv → s.mode = .midi →
    ∃ t t' u u' more,
      step { s with pending := .op (.rx b) :: .op .take :: rest } = .next t ∧ step t = .next u ∧
      step { s with pending := .op .take :: .op (.rx b) :: rest } = .next t' ∧ step t' = .next u' ∧
      u.pending = rest ∧ u'.pending = rest ∧
      u.pm = u'.pm ∧ u.fi = u'.fi ∧ u.el = u'.el ∧ u.rs = u'.rs ∧
      t.trace = s.trace ++ more ∧ u.trace = t.trace ++ [.took t.hs.takeResult] ∧
      t'.trace = s.trace ++ [.took s.hs.takeResult] ∧ u'.trace = t'.trace ++ more

/-! ### Invariants -/

/-- At reset, and after a boot with any legal parameters at any strap level whatever the host will do, the invariants hold (R24, R200,
R203). -/
def Obligations.ResetMeetsInvariants : Prop :=
  (State.reset.Inv ∧ State.reset.TraceInv ∧ State.reset.PacketsOk) ∧
  (∀ (p : Config.Params) (l : Level) (events : List HostEvent), p.wf = true →
    (bootState p l events).Inv ∧ (bootState p l events).TraceInv ∧ (bootState p l events).PacketsOk)

/-- R24, R106: every step preserves INV, for every event and every parameter value, and with it the legal parameters, the quiet Serial
persona (R33, R169) and the counters' bound (R166). INV and that it is preserved are the spec's derivation. The quiet Serial persona rests on
D16 (notes/assumptions/5.md), and that its main loop is at the top with both counters 0 on the model's reading that a RESET event restarts
the loop and clears the counters (notes/assumptions/7.md). -/
def Obligations.StepKeepsInvariant : Prop :=
  ∀ s t : State, s.Inv → step s = .next t → t.Inv

/-- R180, R182: from a state that meets the invariant the machine always steps: no fault, no refusal, no stuck state. The step takes the
first pending event where there is one; that the machine steps where there is none, and takes nothing then, is the model's choice
(notes/assumptions/4.md). -/
def Obligations.StepAlwaysAnswers : Prop :=
  ∀ s : State, s.Inv → ∃ t, step s = .next t ∧ t.pending = s.pending.tail

/-- R25, R48, R151, R152: every step keeps the latch equal to what its observed history makes of it, and every TAKE's result equal to what
the latch held. That RESET empties the latch is the spec's choice (D6; notes/assumptions/11.md), and the history is the model's record
(notes/assumptions/9.md). -/
def Obligations.StepKeepsTraceInvariant : Prop :=
  ∀ s t : State, s.TraceInv → step s = .next t → t.TraceInv

/-- R80, R81, R82, R71: every packet the block ever writes has the format of a CompleteMessage, in particular cable number 0, exact zero
fill and no status byte without a length. The event byte and the cable number's place are the spec's choices (D10, 93 G2, G3). -/
def Obligations.StepKeepsPacketFormat : Prop :=
  ∀ s t : State, s.Inv → s.PacketsOk → step s = .next t → t.PacketsOk

/-- R24 and R180 over runs: every state that a run reaches, from any boot and whatever the host does, meets the invariants, and the machine
steps on from it. What the invariant says of the Serial persona rests on D16 and on the restart at a RESET event (notes/assumptions/5.md,
7.md), the boots have the reset values that the spec chose (D3 to D6; notes/assumptions/11.md), and that the machine steps with nothing
pending is the model's choice (notes/assumptions/4.md). -/
def Obligations.ReachableStatesAreSafe : Prop :=
  ∀ s : State, Reachable s → s.Inv ∧ s.TraceInv ∧ s.PacketsOk ∧ ∃ t, step s = .next t

/-- R48: the packets that TAKE returns are, in order, some of those written, each at most once, and the packet that the latch holds comes
after them: completion order is kept. The spec derives it. It rests on the latch being empty at reset, the spec's choice (D6;
notes/assumptions/11.md). -/
def Obligations.ReturnedInCompletionOrder : Prop :=
  ∀ s : State, s.TraceInv →
    (returnedOf s.trace).Sublist (writesOf s.trace) ∧
    (s.hs.valid = true → (returnedOf s.trace ++ [s.hs.msg]).Sublist (writesOf s.trace))

/-- R28, U5: PM from FI on, and HS.msg while HS.valid is 0, are never observable: two states that differ only there, both meeting INV, step
to states that differ only there, with the same observation. -/
def Obligations.UnobservableStaysUnobserved : Prop :=
  ∀ s u t : State, s.DecoderInv → u.DecoderInv → s.SameObservable u → step s = .next t →
    ∃ v, step u = .next v ∧ t.SameObservable v

/-! ### The environment -/

/-- R162: DISPATCH takes and sends only when the channel is ready: an empty latch sends nothing, a message is sent as it is and the transmit
indicator is armed to its full duration; not ready, the message stays in the latch. That the indicator is armed whatever `send_packet`
returned is the spec's choice (D24; notes/assumptions/13.md), and that FORWARD comes next is too (D23; notes/assumptions/8.md). That
no RESET falls between the TAKE and the send is the model's choice (notes/assumptions/22.md).
That such a step answers outside INV too is the model's choice (notes/assumptions/6.md). -/
def Obligations.DispatchSendsTakenMessage : Prop :=
  ∀ (s : State) (d : Draws) (rest : List HostEvent),
    s.mode = .midi → s.pending = .mainLoop d :: rest → s.env.loop = .dispatch →
    (d.channelReady = false →
      step s = .next { s with pending := rest, env := { s.env with loop := .forward } }) ∧
    (d.channelReady = true → s.hs.valid = false →
      step s = .next { s with pending := rest, trace := s.trace ++ [.took none], env := { s.env with loop := .forward } }) ∧
    (d.channelReady = true → s.hs.valid = true →
      step s = .next { s with
        pending := rest
        hs := ⟨false, s.hs.msg⟩
        trace := s.trace ++ [.took (some s.hs.msg)]
        env := { s.env with
          loop := .forward
          txCount := s.params.ticks
          usbSent := s.env.usbSent ++ [⟨s.hs.msg, d.sendOk⟩] } })

/-- R164, R165: FORWARD writes the payload bytes of a received packet to the UART in order, three of them or as many as the message has by
FORWARD_POLICY, arms the receive indicator, and reaches nothing of the block. The policy and the order of the loop are the spec's choices
(D22, D23; notes/assumptions/21.md, 8.md). That no RESET falls inside is the model's choice (notes/assumptions/22.md).
That such a step answers outside INV too is the model's choice (notes/assumptions/6.md). -/
def Obligations.ForwardWritesPayload : Prop :=
  ∀ (s : State) (d : Draws) (rest : List HostEvent),
    s.mode = .midi → s.pending = .mainLoop d :: rest → s.env.loop = .forward →
    (d.received = none → step s = .next { s with pending := rest, env := { s.env with loop := .indicators } }) ∧
    (∀ p, d.received = some p →
      let bytes :=
        if s.params.forwardPolicy = .allThree then [p.data1, p.data2, p.data3]
        else if len (typeOf p.data1) = some 1 then [p.data1]
        else if len (typeOf p.data1) = some 2 then [p.data1, p.data2]
        else [p.data1, p.data2, p.data3]
      step s = .next { s with
        pending := rest
        env := { s.env with
          loop := .indicators
          rxCount := s.params.ticks
          uartSent := s.env.uartSent ++ bytes } })

/-- R161: the order of the main loop, and what its remaining moves do. The order is the spec's choice (D23; notes/assumptions/8.md).
That such a step answers outside INV too is the model's choice (notes/assumptions/6.md). -/
def Obligations.MainLoopOrder : Prop :=
  ∀ (s : State) (d : Draws) (rest : List HostEvent), s.mode = .midi → s.pending = .mainLoop d :: rest →
    (s.env.loop = .top →
      step s = .next { s with
        pending := rest
        env := { s.env with loop := if d.deviceConfigured then .dispatch else .indicators } }) ∧
    (s.env.loop = .indicators →
      step s = .next { s with
        pending := rest
        env := { s.env with loop := .housekeeping, txCount := s.env.txCount - 1, rxCount := s.env.rxCount - 1 } }) ∧
    (s.env.loop = .housekeeping →
      step s = .next { s with pending := rest, env := { s.env with loop := .top } })

/-- R166, R167: an indicator armed to TICKS is on until the TICKS-th decrement and stays off after it; the two counters are independent.
TICKS is any value (OPEN). That the counters are naturals and that arming sets TICKS is the spec's (D23). -/
def Obligations.IndicatorsCountDown : Prop :=
  ∀ (s : State) (k : Nat),
    txOn (indicatorsTurn^[k] (armTx s)) = decide (k < s.params.ticks) ∧
    rxOn (indicatorsTurn^[k] (armTx s)) = decide (k < s.env.rxCount) ∧
    rxOn (indicatorsTurn^[k] (armRx s)) = decide (k < s.params.ticks) ∧
    txOn (indicatorsTurn^[k] (armRx s)) = decide (k < s.env.txCount)

/-- §8, last property (W7): a NoteOn received while the main loop stands at DISPATCH with a ready channel is given to `send_packet` as one
packet, and the transmit indicator is armed, for every channel, every pair of data bytes and every TICKS. Where `send_packet` succeeds this
is W7. Where it returns an error the packet is lost (R163), and that the indicator is armed even so is the spec's choice (D24;
notes/assumptions/13.md). That the loop is at DISPATCH and moves on from it is the loop order of D23 (notes/assumptions/8.md). -/
def Obligations.ReceivedNoteIsSent : Prop :=
  ∀ (s : State) (n : BitVec 4) (d1 d2 : BitVec 7) (d : Draws) (rest : List HostEvent),
    s.DecoderInv → s.fi = 0#2 → s.mode = .midi → s.env.loop = .dispatch → d.channelReady = true →
    ∃ t1 t2 t3 t4,
      step { s with pending := .op (.rx (0x9#4 ++ n)) :: .op (.rx (0#1 ++ d1)) :: .op (.rx (0#1 ++ d2)) :: .mainLoop d :: rest }
        = .next t1 ∧
      step t1 = .next t2 ∧ step t2 = .next t3 ∧ step t3 = .next t4 ∧
      t4.env.usbSent = s.env.usbSent ++ [⟨⟨0x09#8, 0x9#4 ++ n, 0#1 ++ d1, 0#1 ++ d2⟩, d.sendOk⟩] ∧
      t4.env.txCount = s.params.ticks ∧ t4.hs.valid = false ∧ t4.rs = 0x9#4 ++ n ∧ t4.fi = 0#2 ∧ t4.pending = rest
end

