-- ==== Sys2Proof/Laws/Bytes.lean ====
section
/-! SUPPORT. What the classifier, the length table and the two predicates say of a byte, stated once over all 256 values. -/

namespace Sys2Proof.Machine

theorem isStatus_eq_not_isData (b : Byte) : isStatus b = !isData b := by
  revert b; decide

theorem isData_byteOfSeven (d : BitVec 7) : isData (byteOfSeven d) = true := by
  revert d; decide

theorem len_eq (t : MessageType) : len t = none ∨ len t = some 1 ∨ len t = some 2 ∨ len t = some 3 := by
  cases t <;> simp [len]

theorem len_typeOf_of_isData {b : Byte} (h : isData b = true) : len (typeOf b) = none := by
  revert b; decide

theorem isCv_isData_false {b : Byte} (h : isCv b = true) : isData b = false := by
  revert b; decide

theorem isCv_of_isData {b : Byte} (h : isData b = true) : isCv b = false := by
  revert b; decide

theorem isCv_rsInvalid : isCv 0x00#8 = false := by decide

theorem len_typeOf_of_isCv {b : Byte} (h : isCv b = true) : len (typeOf b) = some 2 ∨ len (typeOf b) = some 3 := by
  revert b; decide

theorem isRt_iff_len_one {b : Byte} : len (typeOf b) = some 1 ↔ isRt b = true ∨ b = 0xF6#8 := by
  revert b; decide

theorem isStatus_of_isRt {b : Byte} (h : isRt b = true) : isStatus b = true := by
  revert b; decide

theorem highNibble_eventByte {b : Byte} (policy : Config.EventCodePolicy) : highNibble (eventByte policy b) = 0#4 := by
  revert b; cases policy <;> decide

end Sys2Proof.Machine
end

