-- ==== Sys2Proof/Laws/State.lean ====
section
/-! SUPPORT. What each update of the state makes of each field: one lemma per field per update, all true by unfolding once. -/

namespace Sys2Proof.Machine

@[simp] theorem writePm_pm (i : Nat) (b : Byte) (s : State) : (writePm i b s).pm = s.pm.write i b := rfl
@[simp] theorem writePm_fi (i : Nat) (b : Byte) (s : State) : (writePm i b s).fi = s.fi := rfl
@[simp] theorem writePm_el (i : Nat) (b : Byte) (s : State) : (writePm i b s).el = s.el := rfl
@[simp] theorem writePm_rs (i : Nat) (b : Byte) (s : State) : (writePm i b s).rs = s.rs := rfl
@[simp] theorem writePm_hs (i : Nat) (b : Byte) (s : State) : (writePm i b s).hs = s.hs := rfl
@[simp] theorem writePm_mode (i : Nat) (b : Byte) (s : State) : (writePm i b s).mode = s.mode := rfl
@[simp] theorem writePm_strap (i : Nat) (b : Byte) (s : State) : (writePm i b s).strap = s.strap := rfl
@[simp] theorem writePm_params (i : Nat) (b : Byte) (s : State) : (writePm i b s).params = s.params := rfl
@[simp] theorem writePm_env (i : Nat) (b : Byte) (s : State) : (writePm i b s).env = s.env := rfl
@[simp] theorem writePm_trace (i : Nat) (b : Byte) (s : State) : (writePm i b s).trace = s.trace := rfl
@[simp] theorem writePm_pending (i : Nat) (b : Byte) (s : State) : (writePm i b s).pending = s.pending := rfl

@[simp] theorem setFi_pm (v : BitVec 2) (s : State) : (setFi v s).pm = s.pm := rfl
@[simp] theorem setFi_fi (v : BitVec 2) (s : State) : (setFi v s).fi = v := rfl
@[simp] theorem setFi_el (v : BitVec 2) (s : State) : (setFi v s).el = s.el := rfl
@[simp] theorem setFi_rs (v : BitVec 2) (s : State) : (setFi v s).rs = s.rs := rfl
@[simp] theorem setFi_hs (v : BitVec 2) (s : State) : (setFi v s).hs = s.hs := rfl
@[simp] theorem setFi_mode (v : BitVec 2) (s : State) : (setFi v s).mode = s.mode := rfl
@[simp] theorem setFi_strap (v : BitVec 2) (s : State) : (setFi v s).strap = s.strap := rfl
@[simp] theorem setFi_params (v : BitVec 2) (s : State) : (setFi v s).params = s.params := rfl
@[simp] theorem setFi_env (v : BitVec 2) (s : State) : (setFi v s).env = s.env := rfl
@[simp] theorem setFi_trace (v : BitVec 2) (s : State) : (setFi v s).trace = s.trace := rfl
@[simp] theorem setFi_pending (v : BitVec 2) (s : State) : (setFi v s).pending = s.pending := rfl

@[simp] theorem setEl_pm (v : BitVec 2) (s : State) : (setEl v s).pm = s.pm := rfl
@[simp] theorem setEl_fi (v : BitVec 2) (s : State) : (setEl v s).fi = s.fi := rfl
@[simp] theorem setEl_el (v : BitVec 2) (s : State) : (setEl v s).el = v := rfl
@[simp] theorem setEl_rs (v : BitVec 2) (s : State) : (setEl v s).rs = s.rs := rfl
@[simp] theorem setEl_hs (v : BitVec 2) (s : State) : (setEl v s).hs = s.hs := rfl
@[simp] theorem setEl_mode (v : BitVec 2) (s : State) : (setEl v s).mode = s.mode := rfl
@[simp] theorem setEl_strap (v : BitVec 2) (s : State) : (setEl v s).strap = s.strap := rfl
@[simp] theorem setEl_params (v : BitVec 2) (s : State) : (setEl v s).params = s.params := rfl
@[simp] theorem setEl_env (v : BitVec 2) (s : State) : (setEl v s).env = s.env := rfl
@[simp] theorem setEl_trace (v : BitVec 2) (s : State) : (setEl v s).trace = s.trace := rfl
@[simp] theorem setEl_pending (v : BitVec 2) (s : State) : (setEl v s).pending = s.pending := rfl

@[simp] theorem setRs_pm (v : Byte) (s : State) : (setRs v s).pm = s.pm := rfl
@[simp] theorem setRs_fi (v : Byte) (s : State) : (setRs v s).fi = s.fi := rfl
@[simp] theorem setRs_el (v : Byte) (s : State) : (setRs v s).el = s.el := rfl
@[simp] theorem setRs_rs (v : Byte) (s : State) : (setRs v s).rs = v := rfl
@[simp] theorem setRs_hs (v : Byte) (s : State) : (setRs v s).hs = s.hs := rfl
@[simp] theorem setRs_mode (v : Byte) (s : State) : (setRs v s).mode = s.mode := rfl
@[simp] theorem setRs_strap (v : Byte) (s : State) : (setRs v s).strap = s.strap := rfl
@[simp] theorem setRs_params (v : Byte) (s : State) : (setRs v s).params = s.params := rfl
@[simp] theorem setRs_env (v : Byte) (s : State) : (setRs v s).env = s.env := rfl
@[simp] theorem setRs_trace (v : Byte) (s : State) : (setRs v s).trace = s.trace := rfl
@[simp] theorem setRs_pending (v : Byte) (s : State) : (setRs v s).pending = s.pending := rfl

@[simp] theorem observe_pm (e : TraceEvent) (s : State) : (observe e s).pm = s.pm := rfl
@[simp] theorem observe_fi (e : TraceEvent) (s : State) : (observe e s).fi = s.fi := rfl
@[simp] theorem observe_el (e : TraceEvent) (s : State) : (observe e s).el = s.el := rfl
@[simp] theorem observe_rs (e : TraceEvent) (s : State) : (observe e s).rs = s.rs := rfl
@[simp] theorem observe_hs (e : TraceEvent) (s : State) : (observe e s).hs = s.hs := rfl
@[simp] theorem observe_mode (e : TraceEvent) (s : State) : (observe e s).mode = s.mode := rfl
@[simp] theorem observe_strap (e : TraceEvent) (s : State) : (observe e s).strap = s.strap := rfl
@[simp] theorem observe_params (e : TraceEvent) (s : State) : (observe e s).params = s.params := rfl
@[simp] theorem observe_env (e : TraceEvent) (s : State) : (observe e s).env = s.env := rfl
@[simp] theorem observe_trace (e : TraceEvent) (s : State) : (observe e s).trace = s.trace ++ [e] := rfl
@[simp] theorem observe_pending (e : TraceEvent) (s : State) : (observe e s).pending = s.pending := rfl

@[simp] theorem clearPm_pm (s : State) : (clearPm s).pm = PendingMessage.empty := rfl
@[simp] theorem clearPm_fi (s : State) : (clearPm s).fi = s.fi := rfl
@[simp] theorem clearPm_el (s : State) : (clearPm s).el = s.el := rfl
@[simp] theorem clearPm_rs (s : State) : (clearPm s).rs = s.rs := rfl
@[simp] theorem clearPm_hs (s : State) : (clearPm s).hs = s.hs := rfl
@[simp] theorem clearPm_mode (s : State) : (clearPm s).mode = s.mode := rfl
@[simp] theorem clearPm_strap (s : State) : (clearPm s).strap = s.strap := rfl
@[simp] theorem clearPm_params (s : State) : (clearPm s).params = s.params := rfl
@[simp] theorem clearPm_env (s : State) : (clearPm s).env = s.env := rfl
@[simp] theorem clearPm_trace (s : State) : (clearPm s).trace = s.trace := rfl
@[simp] theorem clearPm_pending (s : State) : (clearPm s).pending = s.pending := rfl

@[simp] theorem endMessage_pm (s : State) : (endMessage s).pm = PendingMessage.empty := rfl
@[simp] theorem endMessage_fi (s : State) : (endMessage s).fi = 0#2 := rfl
@[simp] theorem endMessage_el (s : State) : (endMessage s).el = 0#2 := rfl
@[simp] theorem endMessage_rs (s : State) : (endMessage s).rs = s.rs := rfl
@[simp] theorem endMessage_hs (s : State) : (endMessage s).hs = s.hs := rfl
@[simp] theorem endMessage_mode (s : State) : (endMessage s).mode = s.mode := rfl
@[simp] theorem endMessage_strap (s : State) : (endMessage s).strap = s.strap := rfl
@[simp] theorem endMessage_params (s : State) : (endMessage s).params = s.params := rfl
@[simp] theorem endMessage_env (s : State) : (endMessage s).env = s.env := rfl
@[simp] theorem endMessage_trace (s : State) : (endMessage s).trace = s.trace := rfl
@[simp] theorem endMessage_pending (s : State) : (endMessage s).pending = s.pending := rfl

@[simp] theorem writeLatch_pm (p : Packet) (s : State) : (writeLatch p s).pm = s.pm := rfl
@[simp] theorem writeLatch_fi (p : Packet) (s : State) : (writeLatch p s).fi = s.fi := rfl
@[simp] theorem writeLatch_el (p : Packet) (s : State) : (writeLatch p s).el = s.el := rfl
@[simp] theorem writeLatch_rs (p : Packet) (s : State) : (writeLatch p s).rs = s.rs := rfl
@[simp] theorem writeLatch_hs (p : Packet) (s : State) : (writeLatch p s).hs = s.hs.write p := rfl
@[simp] theorem writeLatch_mode (p : Packet) (s : State) : (writeLatch p s).mode = s.mode := rfl
@[simp] theorem writeLatch_strap (p : Packet) (s : State) : (writeLatch p s).strap = s.strap := rfl
@[simp] theorem writeLatch_params (p : Packet) (s : State) : (writeLatch p s).params = s.params := rfl
@[simp] theorem writeLatch_env (p : Packet) (s : State) : (writeLatch p s).env = s.env := rfl
@[simp] theorem writeLatch_trace (p : Packet) (s : State) : (writeLatch p s).trace = s.trace ++ [.wrote p] := rfl
@[simp] theorem writeLatch_pending (p : Packet) (s : State) : (writeLatch p s).pending = s.pending := rfl

@[simp] theorem emit_pm (d1 d2 d3 : Byte) (s : State) : (emit d1 d2 d3 s).pm = s.pm := rfl
@[simp] theorem emit_fi (d1 d2 d3 : Byte) (s : State) : (emit d1 d2 d3 s).fi = s.fi := rfl
@[simp] theorem emit_el (d1 d2 d3 : Byte) (s : State) : (emit d1 d2 d3 s).el = s.el := rfl
@[simp] theorem emit_rs (d1 d2 d3 : Byte) (s : State) : (emit d1 d2 d3 s).rs = s.rs := rfl
@[simp] theorem emit_hs (d1 d2 d3 : Byte) (s : State) : (emit d1 d2 d3 s).hs = s.hs.write (completeMessage s.params.eventCodePolicy d1 d2 d3) := rfl
@[simp] theorem emit_mode (d1 d2 d3 : Byte) (s : State) : (emit d1 d2 d3 s).mode = s.mode := rfl
@[simp] theorem emit_strap (d1 d2 d3 : Byte) (s : State) : (emit d1 d2 d3 s).strap = s.strap := rfl
@[simp] theorem emit_params (d1 d2 d3 : Byte) (s : State) : (emit d1 d2 d3 s).params = s.params := rfl
@[simp] theorem emit_env (d1 d2 d3 : Byte) (s : State) : (emit d1 d2 d3 s).env = s.env := rfl
@[simp] theorem emit_trace (d1 d2 d3 : Byte) (s : State) : (emit d1 d2 d3 s).trace = s.trace ++ [.wrote (completeMessage s.params.eventCodePolicy d1 d2 d3)] := rfl
@[simp] theorem emit_pending (d1 d2 d3 : Byte) (s : State) : (emit d1 d2 d3 s).pending = s.pending := rfl

@[simp] theorem takeLatch_pm (s : State) : (takeLatch s).pm = s.pm := rfl
@[simp] theorem takeLatch_fi (s : State) : (takeLatch s).fi = s.fi := rfl
@[simp] theorem takeLatch_el (s : State) : (takeLatch s).el = s.el := rfl
@[simp] theorem takeLatch_rs (s : State) : (takeLatch s).rs = s.rs := rfl
@[simp] theorem takeLatch_hs (s : State) : (takeLatch s).hs = s.hs.clear := rfl
@[simp] theorem takeLatch_mode (s : State) : (takeLatch s).mode = s.mode := rfl
@[simp] theorem takeLatch_strap (s : State) : (takeLatch s).strap = s.strap := rfl
@[simp] theorem takeLatch_params (s : State) : (takeLatch s).params = s.params := rfl
@[simp] theorem takeLatch_env (s : State) : (takeLatch s).env = s.env := rfl
@[simp] theorem takeLatch_trace (s : State) : (takeLatch s).trace = s.trace ++ [.took s.hs.takeResult] := rfl
@[simp] theorem takeLatch_pending (s : State) : (takeLatch s).pending = s.pending := rfl

@[simp] theorem resetBlock_pm (s : State) : (resetBlock s).pm = PendingMessage.empty := rfl
@[simp] theorem resetBlock_fi (s : State) : (resetBlock s).fi = 0#2 := rfl
@[simp] theorem resetBlock_el (s : State) : (resetBlock s).el = 0#2 := rfl
@[simp] theorem resetBlock_rs (s : State) : (resetBlock s).rs = rsInvalid := rfl
@[simp] theorem resetBlock_hs (s : State) : (resetBlock s).hs = Latch.empty := rfl
@[simp] theorem resetBlock_mode (s : State) : (resetBlock s).mode = samplePersona s.params s.strap := rfl
@[simp] theorem resetBlock_strap (s : State) : (resetBlock s).strap = s.strap := rfl
@[simp] theorem resetBlock_params (s : State) : (resetBlock s).params = s.params := rfl
@[simp] theorem resetBlock_env (s : State) : (resetBlock s).env = s.env := rfl
@[simp] theorem resetBlock_trace (s : State) : (resetBlock s).trace = s.trace ++ [.wasReset (samplePersona s.params s.strap)] := rfl
@[simp] theorem resetBlock_pending (s : State) : (resetBlock s).pending = s.pending := rfl

@[simp] theorem moveLoop_pm (p : LoopPoint) (s : State) : (moveLoop p s).pm = s.pm := rfl
@[simp] theorem moveLoop_fi (p : LoopPoint) (s : State) : (moveLoop p s).fi = s.fi := rfl
@[simp] theorem moveLoop_el (p : LoopPoint) (s : State) : (moveLoop p s).el = s.el := rfl
@[simp] theorem moveLoop_rs (p : LoopPoint) (s : State) : (moveLoop p s).rs = s.rs := rfl
@[simp] theorem moveLoop_hs (p : LoopPoint) (s : State) : (moveLoop p s).hs = s.hs := rfl
@[simp] theorem moveLoop_mode (p : LoopPoint) (s : State) : (moveLoop p s).mode = s.mode := rfl
@[simp] theorem moveLoop_strap (p : LoopPoint) (s : State) : (moveLoop p s).strap = s.strap := rfl
@[simp] theorem moveLoop_params (p : LoopPoint) (s : State) : (moveLoop p s).params = s.params := rfl
@[simp] theorem moveLoop_env (p : LoopPoint) (s : State) : (moveLoop p s).env = { s.env with loop := p } := rfl
@[simp] theorem moveLoop_trace (p : LoopPoint) (s : State) : (moveLoop p s).trace = s.trace := rfl
@[simp] theorem moveLoop_pending (p : LoopPoint) (s : State) : (moveLoop p s).pending = s.pending := rfl

@[simp] theorem armTx_pm (s : State) : (armTx s).pm = s.pm := rfl
@[simp] theorem armTx_fi (s : State) : (armTx s).fi = s.fi := rfl
@[simp] theorem armTx_el (s : State) : (armTx s).el = s.el := rfl
@[simp] theorem armTx_rs (s : State) : (armTx s).rs = s.rs := rfl
@[simp] theorem armTx_hs (s : State) : (armTx s).hs = s.hs := rfl
@[simp] theorem armTx_mode (s : State) : (armTx s).mode = s.mode := rfl
@[simp] theorem armTx_strap (s : State) : (armTx s).strap = s.strap := rfl
@[simp] theorem armTx_params (s : State) : (armTx s).params = s.params := rfl
@[simp] theorem armTx_env (s : State) : (armTx s).env = { s.env with txCount := s.params.ticks } := rfl
@[simp] theorem armTx_trace (s : State) : (armTx s).trace = s.trace := rfl
@[simp] theorem armTx_pending (s : State) : (armTx s).pending = s.pending := rfl

@[simp] theorem armRx_pm (s : State) : (armRx s).pm = s.pm := rfl
@[simp] theorem armRx_fi (s : State) : (armRx s).fi = s.fi := rfl
@[simp] theorem armRx_el (s : State) : (armRx s).el = s.el := rfl
@[simp] theorem armRx_rs (s : State) : (armRx s).rs = s.rs := rfl
@[simp] theorem armRx_hs (s : State) : (armRx s).hs = s.hs := rfl
@[simp] theorem armRx_mode (s : State) : (armRx s).mode = s.mode := rfl
@[simp] theorem armRx_strap (s : State) : (armRx s).strap = s.strap := rfl
@[simp] theorem armRx_params (s : State) : (armRx s).params = s.params := rfl
@[simp] theorem armRx_env (s : State) : (armRx s).env = { s.env with rxCount := s.params.ticks } := rfl
@[simp] theorem armRx_trace (s : State) : (armRx s).trace = s.trace := rfl
@[simp] theorem armRx_pending (s : State) : (armRx s).pending = s.pending := rfl

@[simp] theorem sendPacket_pm (m : Packet) (ok : Bool) (s : State) : (sendPacket m ok s).pm = s.pm := rfl
@[simp] theorem sendPacket_fi (m : Packet) (ok : Bool) (s : State) : (sendPacket m ok s).fi = s.fi := rfl
@[simp] theorem sendPacket_el (m : Packet) (ok : Bool) (s : State) : (sendPacket m ok s).el = s.el := rfl
@[simp] theorem sendPacket_rs (m : Packet) (ok : Bool) (s : State) : (sendPacket m ok s).rs = s.rs := rfl
@[simp] theorem sendPacket_hs (m : Packet) (ok : Bool) (s : State) : (sendPacket m ok s).hs = s.hs := rfl
@[simp] theorem sendPacket_mode (m : Packet) (ok : Bool) (s : State) : (sendPacket m ok s).mode = s.mode := rfl
@[simp] theorem sendPacket_strap (m : Packet) (ok : Bool) (s : State) : (sendPacket m ok s).strap = s.strap := rfl
@[simp] theorem sendPacket_params (m : Packet) (ok : Bool) (s : State) : (sendPacket m ok s).params = s.params := rfl
@[simp] theorem sendPacket_env (m : Packet) (ok : Bool) (s : State) : (sendPacket m ok s).env = { s.env with usbSent := s.env.usbSent ++ [⟨m, ok⟩] } := rfl
@[simp] theorem sendPacket_trace (m : Packet) (ok : Bool) (s : State) : (sendPacket m ok s).trace = s.trace := rfl
@[simp] theorem sendPacket_pending (m : Packet) (ok : Bool) (s : State) : (sendPacket m ok s).pending = s.pending := rfl

@[simp] theorem transmitBytes_pm (bs : List Byte) (s : State) : (transmitBytes bs s).pm = s.pm := rfl
@[simp] theorem transmitBytes_fi (bs : List Byte) (s : State) : (transmitBytes bs s).fi = s.fi := rfl
@[simp] theorem transmitBytes_el (bs : List Byte) (s : State) : (transmitBytes bs s).el = s.el := rfl
@[simp] theorem transmitBytes_rs (bs : List Byte) (s : State) : (transmitBytes bs s).rs = s.rs := rfl
@[simp] theorem transmitBytes_hs (bs : List Byte) (s : State) : (transmitBytes bs s).hs = s.hs := rfl
@[simp] theorem transmitBytes_mode (bs : List Byte) (s : State) : (transmitBytes bs s).mode = s.mode := rfl
@[simp] theorem transmitBytes_strap (bs : List Byte) (s : State) : (transmitBytes bs s).strap = s.strap := rfl
@[simp] theorem transmitBytes_params (bs : List Byte) (s : State) : (transmitBytes bs s).params = s.params := rfl
@[simp] theorem transmitBytes_env (bs : List Byte) (s : State) : (transmitBytes bs s).env = { s.env with uartSent := s.env.uartSent ++ bs } := rfl
@[simp] theorem transmitBytes_trace (bs : List Byte) (s : State) : (transmitBytes bs s).trace = s.trace := rfl
@[simp] theorem transmitBytes_pending (bs : List Byte) (s : State) : (transmitBytes bs s).pending = s.pending := rfl

@[simp] theorem indicatorsTurn_pm (s : State) : (indicatorsTurn s).pm = s.pm := rfl
@[simp] theorem indicatorsTurn_fi (s : State) : (indicatorsTurn s).fi = s.fi := rfl
@[simp] theorem indicatorsTurn_el (s : State) : (indicatorsTurn s).el = s.el := rfl
@[simp] theorem indicatorsTurn_rs (s : State) : (indicatorsTurn s).rs = s.rs := rfl
@[simp] theorem indicatorsTurn_hs (s : State) : (indicatorsTurn s).hs = s.hs := rfl
@[simp] theorem indicatorsTurn_mode (s : State) : (indicatorsTurn s).mode = s.mode := rfl
@[simp] theorem indicatorsTurn_strap (s : State) : (indicatorsTurn s).strap = s.strap := rfl
@[simp] theorem indicatorsTurn_params (s : State) : (indicatorsTurn s).params = s.params := rfl
@[simp] theorem indicatorsTurn_env (s : State) : (indicatorsTurn s).env = { s.env with txCount := s.env.txCount - 1, rxCount := s.env.rxCount - 1 } := rfl
@[simp] theorem indicatorsTurn_trace (s : State) : (indicatorsTurn s).trace = s.trace := rfl
@[simp] theorem indicatorsTurn_pending (s : State) : (indicatorsTurn s).pending = s.pending := rfl

@[simp] theorem bootEnvironment_pm (s : State) : (bootEnvironment s).pm = s.pm := rfl
@[simp] theorem bootEnvironment_fi (s : State) : (bootEnvironment s).fi = s.fi := rfl
@[simp] theorem bootEnvironment_el (s : State) : (bootEnvironment s).el = s.el := rfl
@[simp] theorem bootEnvironment_rs (s : State) : (bootEnvironment s).rs = s.rs := rfl
@[simp] theorem bootEnvironment_hs (s : State) : (bootEnvironment s).hs = s.hs := rfl
@[simp] theorem bootEnvironment_mode (s : State) : (bootEnvironment s).mode = s.mode := rfl
@[simp] theorem bootEnvironment_strap (s : State) : (bootEnvironment s).strap = s.strap := rfl
@[simp] theorem bootEnvironment_params (s : State) : (bootEnvironment s).params = s.params := rfl
@[simp] theorem bootEnvironment_env (s : State) : (bootEnvironment s).env = { s.env with loop := .top, txCount := 0, rxCount := 0 } := rfl
@[simp] theorem bootEnvironment_trace (s : State) : (bootEnvironment s).trace = s.trace := rfl
@[simp] theorem bootEnvironment_pending (s : State) : (bootEnvironment s).pending = s.pending := rfl

end Sys2Proof.Machine
end

