-- ==== Sys2Proof/Laws/Ops.lean ====
section
/-! SUPPORT. What each shared operation can do, said once: the shapes of START, of MID and of storing a data byte, and the two ways
INV (R24) lets the decoder stand. Later proofs cite these and do not unfold the step. -/

namespace Sys2Proof.Machine

/-! ### INV -/

/-- At message start INV leaves only RS open. -/
theorem decoderInv_of_fi_zero {s : State} (h : s.fi = 0#2) :
    s.DecoderInv ↔ s.el = 0#2 ∧ (s.rs = rsInvalid ∨ isCv s.rs = true) := by
  simp [State.DecoderInv, h]

/-- Mid-message the decoder stands in one of three places: after the status byte of a 2- or a 3-byte message, or after the first data
byte of a 3-byte message. -/
theorem State.DecoderInv.mid {s : State} (hi : s.DecoderInv) (h : s.fi ≠ 0#2) :
    (s.fi = 1#2 ∧ s.el = 2#2 ∧ len (typeOf s.pm.b0) = some 2) ∨
    (s.fi = 1#2 ∧ s.el = 3#2 ∧ len (typeOf s.pm.b0) = some 3) ∨
    (s.fi = 2#2 ∧ s.el = 3#2 ∧ len (typeOf s.pm.b0) = some 3 ∧
      (s.params.midStatusPolicy ≠ .storeAsData → isData s.pm.b1 = true)) := by
  obtain ⟨hel, hlt, hlen, hdata⟩ := hi.2.1 h
  have hfi : s.fi = 1#2 ∨ s.fi = 2#2 := by
    rcases hel with e | e <;> rw [e] at hlt <;> bv_omega
  rcases hfi with f | f <;> rcases hel with e | e <;> simp [f, e] at hlt hlen hdata ⊢
  · exact hlen
  · exact hlen
  · refine ⟨hlen, fun hp => ?_⟩
    simpa [PendingMessage.read] using hdata hp 1 (by omega) (le_refl 1)

/-- The running status is Invalid or a channel-voice status (R23). -/
theorem State.DecoderInv.rs_ok {s : State} (hi : s.DecoderInv) : s.rs = rsInvalid ∨ isCv s.rs = true := hi.2.2

/-- An aborted or completed message leaves INV in place, whatever PM held (R97, R99). -/
theorem endMessage_decoderInv {s : State} (h : s.rs = rsInvalid ∨ isCv s.rs = true) : (endMessage s).DecoderInv := by
  simp [State.DecoderInv, h]

/-! ### RX_BYTE -/

/-- RX_BYTE answers a next state exactly where INV holds, and it is the step's (R90, R182). -/
theorem rxByte_eq_next_iff {b : Byte} {s t : State} : rxByte b s = .next t ↔ s.DecoderInv ∧ rxStep b s = t := by
  by_cases h : s.DecoderInv
  · rw [rxByte, if_pos h]
    exact ⟨fun e => ⟨h, Host.Outcome.next.inj e⟩, fun e => congrArg _ e.2⟩
  · rw [rxByte, if_neg h]
    exact ⟨fun e => (nomatch e), fun e => absurd e.1 h⟩

theorem rxByte_of_inv {s : State} (h : s.DecoderInv) (b : Byte) : rxByte b s = .next (rxStep b s) := if_pos h

theorem rxByte_refused {s : State} (h : ¬ s.DecoderInv) (b : Byte) : rxByte b s = .refused .outsideInvariant := if_neg h

theorem rxStep_of_start {s : State} (h : s.fi = 0#2) (b : Byte) : rxStep b s = rxStart b s := if_pos h

theorem rxStep_of_mid {s : State} (h : s.fi ≠ 0#2) (b : Byte) : rxStep b s = rxMid b s := if_neg h

/-! ### Absorbing (R93) -/

/-- Absorbing writes EL, and RS under ABSORB_CLEARS_RS. -/
theorem absorb_eq (s : State) :
    absorb s = setRs (bif s.params.absorbClearsRs then rsInvalid else s.rs) (setEl 0#2 s) := by
  unfold absorb
  cases h : s.params.absorbClearsRs with
  | true => simp [h]
  | false => simp only [setEl_params, h, cond_false]; rfl

@[simp] theorem absorb_el (s : State) : (absorb s).el = 0#2 := by simp [absorb_eq]
@[simp] theorem absorb_rs (s : State) : (absorb s).rs = bif s.params.absorbClearsRs then rsInvalid else s.rs := by simp [absorb_eq]
@[simp] theorem absorb_pm (s : State) : (absorb s).pm = s.pm := by simp [absorb_eq]
@[simp] theorem absorb_fi (s : State) : (absorb s).fi = s.fi := by simp [absorb_eq]
@[simp] theorem absorb_hs (s : State) : (absorb s).hs = s.hs := by simp [absorb_eq]
@[simp] theorem absorb_mode (s : State) : (absorb s).mode = s.mode := by simp [absorb_eq]
@[simp] theorem absorb_strap (s : State) : (absorb s).strap = s.strap := by simp [absorb_eq]
@[simp] theorem absorb_params (s : State) : (absorb s).params = s.params := by simp [absorb_eq]
@[simp] theorem absorb_env (s : State) : (absorb s).env = s.env := by simp [absorb_eq]
@[simp] theorem absorb_trace (s : State) : (absorb s).trace = s.trace := by simp [absorb_eq]
@[simp] theorem absorb_pending (s : State) : (absorb s).pending = s.pending := by simp [absorb_eq]

/-! ### START -/

theorem storeFirst_plain {b : Byte} {s : State} (h : ¬ (isCv s.rs = true ∧ isData b = true)) :
    storeFirst b s = writePm 0 b s := by
  unfold storeFirst; simp only [writePm_rs, Bool.and_eq_true, if_neg h]

theorem storeFirst_running {b : Byte} {s : State} (hr : isCv s.rs = true) (hb : isData b = true) :
    storeFirst b s = setFi 1#2 (writePm 1 b (writePm 0 s.rs (writePm 0 b s))) := by
  unfold storeFirst; simp [hr, hb]

/-- R93. -/
theorem rxStart_absorb {b : Byte} {s : State} (h : len (typeOf b) = none) (hr : ¬ (isCv s.rs = true ∧ isData b = true)) :
    rxStart b s = absorb (writePm 0 b s) := by
  simp only [rxStart, storeFirst_plain hr, writePm_pm, PendingMessage.write, h]

/-- R94. -/
theorem rxStart_one {b : Byte} {s : State} (h : len (typeOf b) = some 1) : rxStart b s = emitOneByte (writePm 0 b s) := by
  have hr : ¬ (isCv s.rs = true ∧ isData b = true) := fun hh => by simp [len_typeOf_of_isData hh.2] at h
  simp only [rxStart, storeFirst_plain hr, writePm_pm, PendingMessage.write, h]

/-- R95, R96 on a fresh status byte. -/
theorem rxStart_begin {b : Byte} {s : State} {n : Nat} (h : len (typeOf b) = some n) (hn : n = 2 ∨ n = 3) (hf : s.fi = 0#2) :
    rxStart b s = setFi 1#2 (setEl (BitVec.ofNat 2 n) (writePm 0 b s)) := by
  have hr : ¬ (isCv s.rs = true ∧ isData b = true) := fun hh => by simp [len_typeOf_of_isData hh.2] at h
  rcases hn with rfl | rfl <;>
    simp [rxStart, storeFirst_plain hr, PendingMessage.write, h, beginMessage, lastByte, hf]

/-- R91, R95 under running status with a 2-byte type: complete at once. -/
theorem rxStart_running_two {b : Byte} {s : State} (hr : isCv s.rs = true) (hb : isData b = true)
    (h : len (typeOf s.rs) = some 2) :
    rxStart b s = endMessage (setRs s.rs (emit s.rs b 0x00#8
      (setEl 2#2 (setFi 1#2 (writePm 1 b (writePm 0 s.rs (writePm 0 b s))))))) := by
  simp [rxStart, storeFirst_running hr hb, PendingMessage.write, h, beginMessage, lastByte]

/-- R91, R96 under running status with a 3-byte type: the second data byte is awaited. -/
theorem rxStart_running_three {b : Byte} {s : State} (hr : isCv s.rs = true) (hb : isData b = true)
    (h : len (typeOf s.rs) = some 3) :
    rxStart b s = setFi 2#2 (setEl 3#2 (setFi 1#2 (writePm 1 b (writePm 0 s.rs (writePm 0 b s))))) := by
  simp [rxStart, storeFirst_running hr hb, PendingMessage.write, h, beginMessage, lastByte]

/-- All that START can do at `FI = 0` (R91 to R96). -/
theorem rxStart_cases {b : Byte} {s : State} (hf : s.fi = 0#2) :
    (len (typeOf b) = none ∧ ¬ (isCv s.rs = true ∧ isData b = true) ∧ rxStart b s = absorb (writePm 0 b s)) ∨
    (len (typeOf b) = some 1 ∧ rxStart b s = emitOneByte (writePm 0 b s)) ∨
    (∃ n, (n = 2 ∨ n = 3) ∧ len (typeOf b) = some n ∧
      rxStart b s = setFi 1#2 (setEl (BitVec.ofNat 2 n) (writePm 0 b s))) ∨
    (isCv s.rs = true ∧ isData b = true ∧ len (typeOf s.rs) = some 2 ∧
      rxStart b s = endMessage (setRs s.rs (emit s.rs b 0x00#8
        (setEl 2#2 (setFi 1#2 (writePm 1 b (writePm 0 s.rs (writePm 0 b s)))))))) ∨
    (isCv s.rs = true ∧ isData b = true ∧ len (typeOf s.rs) = some 3 ∧
      rxStart b s = setFi 2#2 (setEl 3#2 (setFi 1#2 (writePm 1 b (writePm 0 s.rs (writePm 0 b s)))))) := by
  by_cases hr : isCv s.rs = true ∧ isData b = true
  · rcases len_typeOf_of_isCv hr.1 with h | h
    · exact .inr (.inr (.inr (.inl ⟨hr.1, hr.2, h, rxStart_running_two hr.1 hr.2 h⟩)))
    · exact .inr (.inr (.inr (.inr ⟨hr.1, hr.2, h, rxStart_running_three hr.1 hr.2 h⟩)))
  · rcases len_eq (typeOf b) with h | h | h | h
    · exact .inl ⟨h, hr, rxStart_absorb h hr⟩
    · exact .inr (.inl ⟨h, rxStart_one h⟩)
    · exact .inr (.inr (.inl ⟨2, .inl rfl, h, rxStart_begin h (.inl rfl) hf⟩))
    · exact .inr (.inr (.inl ⟨3, .inr rfl, h, rxStart_begin h (.inr rfl) hf⟩))

/-! ### MID -/

/-- R98. -/
theorem rxMid_realTime {b : Byte} (h : isRt b = true) (s : State) : rxMid b s = emit b 0x00#8 0x00#8 s := by
  simp [rxMid, h, isStatus_of_isRt h]

/-- R100 to R102 on a data byte. -/
theorem rxMid_data {b : Byte} (h : isData b = true) (s : State) : rxMid b s = storeNext b s := by
  simp [rxMid, isStatus_eq_not_isData, h]

/-- R99. -/
theorem rxMid_status {b : Byte} (h : isStatus b = true) (hr : isRt b = false) (s : State) : rxMid b s = midStatus b s := by
  simp [rxMid, h, hr]

/-- All that MID can do (R98 to R102): a real-time byte is emitted, an abort restarts, a byte is ignored, or it is stored. -/
theorem rxMid_cases (b : Byte) (s : State) :
    (isRt b = true ∧ rxMid b s = emit b 0x00#8 0x00#8 s) ∨
    (isStatus b = true ∧ isRt b = false ∧ s.params.midStatusPolicy = .abortRestart ∧ rxMid b s = rxStart b (endMessage s)) ∨
    (isStatus b = true ∧ isRt b = false ∧ s.params.midStatusPolicy = .ignore ∧ rxMid b s = s) ∨
    ((s.params.midStatusPolicy ≠ .storeAsData → isData b = true) ∧ rxMid b s = storeNext b s) := by
  by_cases hs : isStatus b = true
  · by_cases hr : isRt b = true
    · exact .inl ⟨hr, rxMid_realTime hr s⟩
    · rw [Bool.not_eq_true] at hr
      rw [rxMid_status hs hr, midStatus]
      cases hp : s.params.midStatusPolicy <;> simp [hs, hr]
  · have hd : isData b = true := by simpa [isStatus_eq_not_isData] using hs
    exact .inr (.inr (.inr ⟨fun _ => hd, rxMid_data hd s⟩))

/-- R101 on the data byte of a 2-byte message. -/
theorem storeNext_two {b : Byte} {s : State} (hf : s.fi = 1#2) (he : s.el = 2#2) :
    storeNext b s = endMessage (setRs (if isCv s.pm.b0 then s.pm.b0 else rsInvalid)
      (emit s.pm.b0 b 0x00#8 (writePm 1 b s))) := by
  simp [storeNext, lastByte, completePending, hf, he, PendingMessage.write]

/-- R102 on the first data byte of a 3-byte message. -/
theorem storeNext_first {b : Byte} {s : State} (hf : s.fi = 1#2) (he : s.el = 3#2) :
    storeNext b s = setFi 2#2 (writePm 1 b s) := by
  simp [storeNext, lastByte, hf, he]

/-- R101 on the second data byte of a 3-byte message. -/
theorem storeNext_second {b : Byte} {s : State} (hf : s.fi = 2#2) (he : s.el = 3#2) :
    storeNext b s = endMessage (setRs (if isCv s.pm.b0 then s.pm.b0 else rsInvalid)
      (emit s.pm.b0 s.pm.b1 b (writePm 2 b s))) := by
  simp [storeNext, lastByte, completePending, hf, he, PendingMessage.write]

/-! ### What a step emits, and what it leaves alone -/

/-- Apart from PM, FI, EL and RS, a START emits at most one message: nothing else changes (R104). -/
theorem rxStart_emits (b : Byte) {s : State} (hf : s.fi = 0#2) :
    ∃ more, (rxStart b s).trace = s.trace ++ more ∧
      (more = [] ∧ (rxStart b s).hs = s.hs ∨ ∃ p, more = [.wrote p] ∧ (rxStart b s).hs = ⟨true, p⟩) ∧
      (rxStart b s).mode = s.mode ∧ (rxStart b s).strap = s.strap ∧ (rxStart b s).params = s.params ∧
      (rxStart b s).env = s.env ∧ (rxStart b s).pending = s.pending := by
  rcases rxStart_cases (b := b) hf with ⟨-, -, h⟩ | ⟨-, h⟩ | ⟨n, -, -, h⟩ | ⟨-, -, -, h⟩ | ⟨-, -, -, h⟩ <;> rw [h]
  · exact ⟨[], by simp⟩
  · exact ⟨_, rfl, .inr ⟨_, rfl, rfl⟩, by simp [emitOneByte]⟩
  · exact ⟨[], by simp⟩
  · exact ⟨_, rfl, .inr ⟨_, rfl, rfl⟩, by simp⟩
  · exact ⟨[], by simp⟩

/-- Apart from PM, FI, EL and RS, an RX_BYTE emits at most one message: nothing else changes (R104). -/
theorem rxStep_emits (b : Byte) {s : State} (hi : s.DecoderInv) :
    ∃ more, (rxStep b s).trace = s.trace ++ more ∧
      (more = [] ∧ (rxStep b s).hs = s.hs ∨ ∃ p, more = [.wrote p] ∧ (rxStep b s).hs = ⟨true, p⟩) ∧
      (rxStep b s).mode = s.mode ∧ (rxStep b s).strap = s.strap ∧ (rxStep b s).params = s.params ∧
      (rxStep b s).env = s.env ∧ (rxStep b s).pending = s.pending := by
  by_cases hf : s.fi = 0#2
  · rw [rxStep_of_start hf]
    exact rxStart_emits b hf
  · rw [rxStep_of_mid hf]
    rcases rxMid_cases b s with ⟨-, h⟩ | ⟨-, -, -, h⟩ | ⟨-, -, -, h⟩ | ⟨-, h⟩ <;> rw [h]
    · exact ⟨_, rfl, .inr ⟨_, rfl, rfl⟩, by simp⟩
    · exact rxStart_emits b (s := endMessage s) rfl
    · exact ⟨[], by simp⟩
    · rcases hi.mid hf with ⟨h1, h2, -⟩ | ⟨h1, h2, -⟩ | ⟨h1, h2, -⟩
      · rw [storeNext_two h1 h2]
        exact ⟨_, rfl, .inr ⟨_, rfl, rfl⟩, by simp⟩
      · rw [storeNext_first h1 h2]
        exact ⟨[], by simp⟩
      · rw [storeNext_second h1 h2]
        exact ⟨_, rfl, .inr ⟨_, rfl, rfl⟩, by simp⟩

/-! ### The latch (R151, R152) -/

@[simp] theorem Latch.write_valid (h : Latch) (p : Packet) : (h.write p).valid = true := rfl
@[simp] theorem Latch.write_msg (h : Latch) (p : Packet) : (h.write p).msg = p := rfl
@[simp] theorem Latch.clear_valid (h : Latch) : h.clear.valid = false := rfl
@[simp] theorem Latch.clear_msg (h : Latch) : h.clear.msg = h.msg := rfl
@[simp] theorem Latch.takeResult_write (h : Latch) (p : Packet) : (h.write p).takeResult = some p := rfl
@[simp] theorem Latch.takeResult_clear (h : Latch) : h.clear.takeResult = none := rfl

/-- What a write leaves does not depend on what was there: it is lost (R154). -/
theorem Latch.write_write (h : Latch) (p q : Packet) : (h.write p).write q = h.write q := rfl

/-- A TAKE that returns Empty found the latch empty. -/
theorem Latch.takeResult_eq_none {h : Latch} : h.takeResult = none ↔ h.valid = false := by
  unfold Latch.takeResult; cases h.valid <;> simp

/-- A TAKE that returns a message returns the one the latch holds. -/
theorem Latch.takeResult_eq_some {h : Latch} {p : Packet} : h.takeResult = some p ↔ h.valid = true ∧ h.msg = p := by
  unfold Latch.takeResult; cases h.valid <;> simp

end Sys2Proof.Machine
end

