-- ==== Sys2Proof/Laws/PerInstr.lean ====
section
/-! SUPPORT. Statements made for every instruction, one lemma per constructor. -/

namespace Sys2Proof.Laws.EncodedRow

/-- The encoding of an instruction belongs to the row of spec/opcode_table.json that bears its mnemonic, and to no other row (R63,
R84). -/
def Statement (i : Instr) : Prop := rowMnemonics (encodeOp i) = [mnemonic i]

theorem noteOff : ∀ n : BitVec 4, Statement (.noteOff n) := by unfold Statement; decide

theorem noteOn : ∀ n : BitVec 4, Statement (.noteOn n) := by unfold Statement; decide

theorem afterTouchPoly : ∀ n : BitVec 4, Statement (.afterTouchPoly n) := by unfold Statement; decide

theorem controlChange : ∀ n : BitVec 4, Statement (.controlChange n) := by unfold Statement; decide

theorem programChange : ∀ n : BitVec 4, Statement (.programChange n) := by unfold Statement; decide

theorem afterTouchChannel : ∀ n : BitVec 4, Statement (.afterTouchChannel n) := by unfold Statement; decide

theorem pitchBend : ∀ n : BitVec 4, Statement (.pitchBend n) := by unfold Statement; decide

theorem systemExclusive : Statement .systemExclusive := by unfold Statement; decide

theorem timeCodeQuarterFrame : Statement .timeCodeQuarterFrame := by unfold Statement; decide

theorem songPosition : Statement .songPosition := by unfold Statement; decide

theorem songSelect : Statement .songSelect := by unfold Statement; decide

theorem undefinedF4 : Statement .undefinedF4 := by unfold Statement; decide

theorem undefinedF5 : Statement .undefinedF5 := by unfold Statement; decide

theorem tuneRequest : Statement .tuneRequest := by unfold Statement; decide

theorem undefinedF7 : Statement .undefinedF7 := by unfold Statement; decide

theorem clock : Statement .clock := by unfold Statement; decide

theorem undefinedF9 : Statement .undefinedF9 := by unfold Statement; decide

theorem start : Statement .start := by unfold Statement; decide

theorem continueMsg : Statement .continueMsg := by unfold Statement; decide

theorem stop : Statement .stop := by unfold Statement; decide

theorem undefinedFD : Statement .undefinedFD := by unfold Statement; decide

theorem activeSensing : Statement .activeSensing := by unfold Statement; decide

theorem systemReset : Statement .systemReset := by unfold Statement; decide

theorem dataByte : ∀ d : BitVec 7, Statement (.dataByte d) := by unfold Statement; decide

theorem take : Statement .take := by unfold Statement; decide

theorem reset : Statement .reset := by unfold Statement; decide

end Sys2Proof.Laws.EncodedRow
end

