-- ==== Sys2Proof/Laws/Step.lean ====
section
/-! SUPPORT. What one step can do, said once: the event it takes, and the cases of its delivery. -/

namespace Sys2Proof.Machine

/-- The meaning of an instruction with a byte is RX_BYTE of that byte (R84, R90). -/
theorem exec_of_encodeOp {i : Instr} {b : Byte} (h : encodeOp i = .rx b) (s : State) : exec i s = rxByte b s := by
  cases i <;> simp only [encodeOp, PortOp.rx.injEq, reduceCtorEq] at h <;> subst h <;> rfl

/-- A byte received runs RX_BYTE of that byte, through the instruction it decodes to (R4, R90). -/
theorem runOp_rx (b : Byte) (s : State) : runOp (.rx b) s = rxByte b s := by
  have h : ∀ b : Byte, encodeOp (decodeByte b) = .rx b := by decide
  exact exec_of_encodeOp (h b) s

@[simp] theorem runOp_take (s : State) : runOp .take s = .next (takeLatch s) := rfl

@[simp] theorem runReset_eq (s : State) : runReset s = .next (bootEnvironment (resetBlock s)) := rfl

/-- In the MIDI persona what is delivered happens (R203). -/
theorem inMidiPersona_of_midi {s : State} (h : s.mode = .midi) (run : State → Host.Outcome State Fault Refusal) :
    inMidiPersona run s = run s := by
  simp only [inMidiPersona, h]

/-- In the Serial persona nothing is delivered (R33, R169). -/
theorem inMidiPersona_of_serial {s : State} (h : s.mode = .serial) (run : State → Host.Outcome State Fault Refusal) :
    inMidiPersona run s = .next s := by
  simp only [inMidiPersona, h]

theorem step_of_idle {s : State} (h : s.pending = []) : step s = .next s := by
  simp [step, fetch, h]

theorem step_of_pending {s : State} {e : HostEvent} {rest : List HostEvent} (h : s.pending = e :: rest) :
    step s = deliver e { s with pending := rest } := by
  simp [step, fetch, h]

/-- All that a step which answers a next state can have done. -/
theorem step_cases {s t : State} (h : step s = .next t) :
    (s.pending = [] ∧ t = s) ∨
    (∃ e rest, s.pending = e :: rest ∧
      ((∃ b, e = .op (.rx b) ∧ s.mode = .midi ∧ s.DecoderInv ∧ t = rxStep b { s with pending := rest }) ∨
       (e = .op .take ∧ s.mode = .midi ∧ t = takeLatch { s with pending := rest }) ∨
       (e = .op .reset ∧ t = bootEnvironment (resetBlock { s with pending := rest })) ∨
       (∃ l, e = .strap l ∧ t = { s with pending := rest, strap := l }) ∨
       (∃ d, e = .mainLoop d ∧ s.mode = .midi ∧ t = mainLoopTurn d { s with pending := rest }) ∨
       (s.mode = .serial ∧ e ≠ .op .reset ∧ (∀ l, e ≠ .strap l) ∧ t = { s with pending := rest }))) := by
  cases hp : s.pending with
  | nil =>
    rw [step_of_idle hp] at h
    exact .inl ⟨rfl, (Host.Outcome.next.inj h).symm⟩
  | cons e rest =>
    rw [step_of_pending hp] at h
    refine .inr ⟨e, rest, rfl, ?_⟩
    cases e with
    | op o =>
      cases o with
      | rx b =>
        cases hm : s.mode with
        | midi =>
          simp only [deliver, inMidiPersona, hm, runOp_rx] at h
          obtain ⟨hi, rfl⟩ := rxByte_eq_next_iff.mp h
          exact .inl ⟨b, rfl, rfl, hi, rfl⟩
        | serial =>
          simp only [deliver, inMidiPersona, hm] at h
          exact .inr (.inr (.inr (.inr (.inr ⟨rfl, by simp, by simp, (Host.Outcome.next.inj h).symm⟩))))
      | take =>
        cases hm : s.mode with
        | midi =>
          simp only [deliver, inMidiPersona, hm, runOp_take] at h
          exact .inr (.inl ⟨rfl, rfl, (Host.Outcome.next.inj h).symm⟩)
        | serial =>
          simp only [deliver, inMidiPersona, hm] at h
          exact .inr (.inr (.inr (.inr (.inr ⟨rfl, by simp, by simp, (Host.Outcome.next.inj h).symm⟩))))
      | reset =>
        simp only [deliver, runReset_eq] at h
        exact .inr (.inr (.inl ⟨rfl, (Host.Outcome.next.inj h).symm⟩))
    | strap l =>
      exact .inr (.inr (.inr (.inl ⟨l, rfl, (Host.Outcome.next.inj h).symm⟩)))
    | mainLoop d =>
      cases hm : s.mode with
      | midi =>
        simp only [deliver, inMidiPersona, hm] at h
        exact .inr (.inr (.inr (.inr (.inl ⟨d, rfl, rfl, (Host.Outcome.next.inj h).symm⟩))))
      | serial =>
        simp only [deliver, inMidiPersona, hm] at h
        exact .inr (.inr (.inr (.inr (.inr ⟨rfl, by simp, by simp, (Host.Outcome.next.inj h).symm⟩))))

/-- All that a DISPATCH can do (R162). -/
theorem dispatchTurn_cases (d : Draws) (s : State) :
    (d.channelReady = false ∧ dispatchTurn d s = s) ∨
    (d.channelReady = true ∧ s.hs.takeResult = none ∧ dispatchTurn d s = takeLatch s) ∨
    (∃ m, d.channelReady = true ∧ s.hs.takeResult = some m ∧
      dispatchTurn d s = armTx (sendPacket m d.sendOk (takeLatch s))) := by
  unfold dispatchTurn
  cases d.channelReady <;> cases h : s.hs.takeResult <;> simp

/-- All that a FORWARD can do (R164). -/
theorem forwardTurn_cases (d : Draws) (s : State) :
    (d.received = none ∧ forwardTurn d s = s) ∨
    (∃ p, d.received = some p ∧
      forwardTurn d s = armRx (transmitBytes (payload s.params.forwardPolicy p) s)) := by
  unfold forwardTurn
  cases d.received <;> simp

/-- A turn of the main loop reaches the block only through a TAKE (R6, R160): every register but the latch is as before. -/
theorem mainLoopTurn_registers (d : Draws) (s : State) :
    (mainLoopTurn d s).pm = s.pm ∧ (mainLoopTurn d s).fi = s.fi ∧ (mainLoopTurn d s).el = s.el ∧
    (mainLoopTurn d s).rs = s.rs ∧ (mainLoopTurn d s).mode = s.mode ∧ (mainLoopTurn d s).strap = s.strap ∧
    (mainLoopTurn d s).params = s.params ∧ (mainLoopTurn d s).pending = s.pending := by
  unfold mainLoopTurn
  cases s.env.loop with
  | top => simp
  | dispatch =>
    obtain ⟨-, h⟩ | ⟨-, -, h⟩ | ⟨m, -, -, h⟩ := dispatchTurn_cases d s <;> simp [h]
  | forward =>
    obtain ⟨-, h⟩ | ⟨p, -, h⟩ := forwardTurn_cases d s <;> simp [h]
  | indicators => simp
  | housekeeping => simp

/-- A turn of the main loop leaves the latch and the observation alone, or is a TAKE on them (R152, R162). -/
theorem mainLoopTurn_latch (d : Draws) (s : State) :
    ((mainLoopTurn d s).hs = s.hs ∧ (mainLoopTurn d s).trace = s.trace) ∨
    ((mainLoopTurn d s).hs = s.hs.clear ∧ (mainLoopTurn d s).trace = s.trace ++ [.took s.hs.takeResult]) := by
  unfold mainLoopTurn
  cases s.env.loop with
  | top => simp
  | dispatch =>
    obtain ⟨-, h⟩ | ⟨-, -, h⟩ | ⟨m, -, -, h⟩ := dispatchTurn_cases d s <;> simp [h]
  | forward =>
    obtain ⟨-, h⟩ | ⟨p, -, h⟩ := forwardTurn_cases d s <;> simp [h]
  | indicators => simp
  | housekeeping => simp

end Sys2Proof.Machine
end

