-- ==== Sys2Proof/Tests/Slice0.lean ====
section
/-! SUPPORT. The model's own tests. The expected results stand in spec/95_test_vectors.md (V and W numbers) or in the rule named. Each
test is one step. The last part shows, for each statement with hypotheses, states and operands that meet them. -/

namespace Sys2Proof.Tests

open Sys2Proof.Config Sys2Proof.Machine Sys2Proof.Machine.Expected

/-! ### Well-formedness, decoding, encoding -/

/-- R11: TICKS is "integer, 1 or more", so 0 is refused. Ill-formed operands cannot be written: their widths stand in the types. -/
theorem test_wf_refuses_zero_ticks : Params.wf { Params.default with ticks := 0 } = false ∧ Params.default.wf = true := by decide

/-- The channel-voice words, written out from the encoding column of spec/opcode_table.json. -/
theorem test_decode_channel_voice :
    decodeByte 0b10001010#8 = .noteOff 0xA#4 ∧ decodeByte 0b10010001#8 = .noteOn 0x1#4 ∧
    decodeByte 0b10100010#8 = .afterTouchPoly 0x2#4 ∧ decodeByte 0b10110111#8 = .controlChange 0x7#4 ∧
    decodeByte 0b11001111#8 = .programChange 0xF#4 ∧ decodeByte 0b11010011#8 = .afterTouchChannel 0x3#4 ∧
    decodeByte 0b11100000#8 = .pitchBend 0x0#4 := by decide

/-- The words `11110xxx` of spec/opcode_table.json. -/
theorem test_decode_system_common :
    decodeByte 0b11110000#8 = .systemExclusive ∧ decodeByte 0b11110001#8 = .timeCodeQuarterFrame ∧
    decodeByte 0b11110010#8 = .songPosition ∧ decodeByte 0b11110011#8 = .songSelect ∧
    decodeByte 0b11110100#8 = .undefinedF4 ∧ decodeByte 0b11110101#8 = .undefinedF5 ∧
    decodeByte 0b11110110#8 = .tuneRequest ∧ decodeByte 0b11110111#8 = .undefinedF7 := by decide

/-- The words `11111xxx` of spec/opcode_table.json. -/
theorem test_decode_system_real_time :
    decodeByte 0b11111000#8 = .clock ∧ decodeByte 0b11111001#8 = .undefinedF9 ∧
    decodeByte 0b11111010#8 = .start ∧ decodeByte 0b11111011#8 = .continueMsg ∧
    decodeByte 0b11111100#8 = .stop ∧ decodeByte 0b11111101#8 = .undefinedFD ∧
    decodeByte 0b11111110#8 = .activeSensing ∧ decodeByte 0b11111111#8 = .systemReset := by decide

/-- Data bytes (R61), and the two words that are no single byte: none decodes. -/
theorem test_decode_data_byte :
    decodeByte 0b00000000#8 = .dataByte 0x00#7 ∧ decodeByte 0b01111111#8 = .dataByte 0x7F#7 ∧
    decodeTableWord 8 0x3C = some (.dataByte 0x3C#7) ∧ decodeTableWord 0 0 = none ∧ decodeTableWord 16 0x90 = none := by decide

/-- R84: "Its encoding is the byte 0xNN itself"; TAKE and RESET have no byte. -/
theorem test_encode : encode (.noteOn 0x1#4) = [0x91#8] ∧ encode (.dataByte 0x3C#7) = [0x3C#8] ∧ encode .take = [] ∧ encode .reset = [] := by
  decide

/-! ### Classifier, length, event byte, orders -/

/-- V1 to V8. -/
theorem test_classify_low :
    classify 0x00#8 = (.invalid, .invalid) ∧ classify 0x7F#8 = (.invalid, .invalid) ∧
    classify 0x80#8 = (.channelVoice, .noteOff) ∧ classify 0x9F#8 = (.channelVoice, .noteOn) ∧
    classify 0xC0#8 = (.channelVoice, .programChange) ∧ classify 0xDF#8 = (.channelVoice, .afterTouchChannel) ∧
    classify 0xEF#8 = (.channelVoice, .pitchBend) ∧ classify 0xF0#8 = (.systemCommon, .systemExclusive) := by decide

/-- V9 to V15. -/
theorem test_classify_system :
    classify 0xF2#8 = (.systemCommon, .songPosition) ∧ classify 0xF6#8 = (.systemCommon, .tuneRequest) ∧
    classify 0xF7#8 = (.invalid, .invalid) ∧ classify 0xF8#8 = (.systemRealTime, .clock) ∧
    classify 0xF9#8 = (.invalid, .invalid) ∧ classify 0xFD#8 = (.invalid, .invalid) ∧
    classify 0xFF#8 = (.systemRealTime, .systemReset) := by decide

/-- The len, is_cv and is_rt columns of V2, V3, V5, V8 to V11, V13 and V15. -/
theorem test_length_and_predicates :
    len (typeOf 0x7F#8) = none ∧ len (typeOf 0x80#8) = some 3 ∧ len (typeOf 0xC0#8) = some 2 ∧ len (typeOf 0xF0#8) = none ∧
    len (typeOf 0xF2#8) = some 3 ∧ len (typeOf 0xF6#8) = some 1 ∧ len (typeOf 0xF7#8) = none ∧
    isCv 0x7F#8 = false ∧ isCv 0x80#8 = true ∧ isCv 0xEF#8 = true ∧ isCv 0xF0#8 = false ∧
    isRt 0xF6#8 = false ∧ isRt 0xF9#8 = false ∧ isRt 0xFD#8 = false ∧ isRt 0xFF#8 = true := by decide

/-- V39. -/
theorem test_event_byte_usb_midi_cin :
    eventByte .usbMidiCin 0xF1#8 = 0x02#8 ∧ eventByte .usbMidiCin 0xF2#8 = 0x03#8 ∧ eventByte .usbMidiCin 0xF3#8 = 0x02#8 ∧
    eventByte .usbMidiCin 0xF6#8 = 0x05#8 ∧ eventByte .usbMidiCin 0xF8#8 = 0x0F#8 ∧ eventByte .usbMidiCin 0x90#8 = 0x09#8 := by decide

/-- R43: "byte k occupies bits 8k+7..8k of a 32-bit view". -/
theorem test_packet_word : packetWord32 ⟨0x09#8, 0x90#8, 0x3C#8, 0x64#8⟩ = 0x643C9009#32 := by decide

/-! ### One step of each instruction -/

/-- A state with these registers, the rest as after reset. -/
def regs (pm : PendingMessage) (fi el : BitVec 2) (rs : Byte) : State := { State.reset with pm := pm, fi := fi, el := el, rs := rs }

/-- At message start with this running status. -/
def atStart (rs : Byte) : State := regs PendingMessage.empty 0#2 0#2 rs

/-- The same state under another MID_STATUS_POLICY. -/
def under (m : MidStatusPolicy) (s : State) : State := { s with params := { s.params with midStatusPolicy := m } }

/-- `RX 0x90 0x3C` from reset (V58). -/
def noteHalf : State := regs ⟨0x90#8, 0x3C#8, 0x00#8⟩ 2#2 3#2 rsInvalid

/-- `RX 0x90` from reset (P4, line 1). -/
def noteBegun : State := regs ⟨0x90#8, 0x00#8, 0x00#8⟩ 1#2 3#2 rsInvalid

/-- `RX 0xC0` from reset (W6). -/
def programBegun : State := regs ⟨0xC0#8, 0x00#8, 0x00#8⟩ 1#2 2#2 rsInvalid

/-- What a test looks at after an instruction. -/
structure Seen where
  pm : PendingMessage
  fi : BitVec 2
  el : BitVec 2
  rs : Byte
  hs : Latch
  deriving DecidableEq, Repr

/-- What is seen where the instruction answers a next state. -/
def after (i : Instr) (s : State) : Option Seen :=
  match exec i s with
  | .next t => some ⟨t.pm, t.fi, t.el, t.rs, t.hs⟩
  | .fault _ => none
  | .refused _ => none

/-- An instruction that started a message of length `n` from reset with the byte `b`. -/
def begun (b : Byte) (n : BitVec 2) : Option Seen :=
  some ⟨⟨b, 0x00#8, 0x00#8⟩, 1#2, n, rsInvalid, Latch.empty⟩

/-- The first byte of V20 to V28 (R110 to R116, R96). -/
theorem test_channel_voice_status :
    after (.noteOff 0#4) State.reset = begun 0x80#8 3#2 ∧ after (.noteOn 0xF#4) State.reset = begun 0x9F#8 3#2 ∧
    after (.afterTouchPoly 2#4) State.reset = begun 0xA2#8 3#2 ∧ after (.controlChange 0#4) State.reset = begun 0xB0#8 3#2 ∧
    after (.programChange 0xF#4) State.reset = begun 0xCF#8 2#2 ∧ after (.afterTouchChannel 3#4) State.reset = begun 0xD3#8 2#2 ∧
    after (.pitchBend 0xF#4) State.reset = begun 0xEF#8 3#2 := by decide

/-- The first byte of V32 to V34 (R121 to R123, R96). -/
theorem test_system_common_status :
    after .timeCodeQuarterFrame State.reset = begun 0xF1#8 2#2 ∧ after .songPosition State.reset = begun 0xF2#8 3#2 ∧
    after .songSelect State.reset = begun 0xF3#8 2#2 := by decide

/-- The running status 0x90 kept, the message absorbed or emitted. -/
def ends (pm0 : Byte) (rs : Byte) (h : Latch) : Option Seen :=
  some ⟨⟨pm0, 0x00#8, 0x00#8⟩, 0#2, 0#2, rs, h⟩

/-- V17 and V18: absorbed, `PM[0] = b`, RS unchanged. -/
theorem test_lengthless_absorbed :
    after .systemExclusive (atStart 0x90#8) = ends 0xF0#8 0x90#8 Latch.empty ∧
    after .undefinedF4 (atStart 0x90#8) = ends 0xF4#8 0x90#8 Latch.empty ∧
    after .undefinedF5 (atStart 0x90#8) = ends 0xF5#8 0x90#8 Latch.empty ∧
    after .undefinedF7 (atStart 0x90#8) = ends 0xF7#8 0x90#8 Latch.empty ∧
    after .undefinedF9 (atStart 0x90#8) = ends 0xF9#8 0x90#8 Latch.empty ∧
    after .undefinedFD (atStart 0x90#8) = ends 0xFD#8 0x90#8 Latch.empty := by decide

/-- V19, its first byte: ABSORB_CLEARS_RS. -/
theorem test_absorb_clears_rs :
    after .systemExclusive { atStart 0x90#8 with params := { Params.default with absorbClearsRs := true } }
      = ends 0xF0#8 rsInvalid Latch.empty := by decide

/-- V35 and V40 to V45: emitted with zero fill, RS kept. -/
theorem test_one_byte_messages :
    after .tuneRequest (atStart 0x90#8) = ends 0 0x90#8 ⟨true, ⟨0x0F#8, 0xF6#8, 0x00#8, 0x00#8⟩⟩ ∧
    after .clock State.reset = ends 0 rsInvalid ⟨true, ⟨0x0F#8, 0xF8#8, 0x00#8, 0x00#8⟩⟩ ∧
    after .start State.reset = ends 0 rsInvalid ⟨true, ⟨0x0F#8, 0xFA#8, 0x00#8, 0x00#8⟩⟩ ∧
    after .continueMsg State.reset = ends 0 rsInvalid ⟨true, ⟨0x0F#8, 0xFB#8, 0x00#8, 0x00#8⟩⟩ ∧
    after .stop State.reset = ends 0 rsInvalid ⟨true, ⟨0x0F#8, 0xFC#8, 0x00#8, 0x00#8⟩⟩ ∧
    after .activeSensing State.reset = ends 0 rsInvalid ⟨true, ⟨0x0F#8, 0xFE#8, 0x00#8, 0x00#8⟩⟩ ∧
    after .systemReset (atStart 0x90#8) = ends 0 0x90#8 ⟨true, ⟨0x0F#8, 0xFF#8, 0x00#8, 0x00#8⟩⟩ := by decide

/-- V46, its last byte: mid-message a real-time byte leaves PM, FI, EL and RS. -/
theorem test_real_time_mid_message :
    after .continueMsg noteHalf
      = some ⟨⟨0x90#8, 0x3C#8, 0x00#8⟩, 2#2, 3#2, rsInvalid, ⟨true, ⟨0x0F#8, 0xFB#8, 0x00#8, 0x00#8⟩⟩⟩ := by decide

/-- V16, V31 and the last byte of V58, W6 and V26: the cases of a data byte (R140 to R142). -/
theorem test_data_byte :
    after (.dataByte 0x7F#7) State.reset = ends 0x7F#8 rsInvalid Latch.empty ∧
    after (.dataByte 0x00#7) (atStart 0x90#8) = some ⟨⟨0x90#8, 0x00#8, 0x00#8⟩, 2#2, 3#2, 0x90#8, Latch.empty⟩ ∧
    after (.dataByte 0x64#7) noteHalf = ends 0 0x90#8 ⟨true, ⟨0x09#8, 0x90#8, 0x3C#8, 0x64#8⟩⟩ ∧
    after (.dataByte 0x05#7) programBegun = ends 0 0xC0#8 ⟨true, ⟨0x0C#8, 0xC0#8, 0x05#8, 0x00#8⟩⟩ ∧
    after (.dataByte 0x13#7) (atStart 0xC0#8) = ends 0 0xC0#8 ⟨true, ⟨0x0C#8, 0xC0#8, 0x13#8, 0x00#8⟩⟩ := by decide

/-- V33, its last byte: a system-common message clears RS. -/
theorem test_system_common_clears_rs :
    after (.dataByte 0x20#7) (regs ⟨0xF2#8, 0x10#8, 0x00#8⟩ 2#2 3#2 0x90#8)
      = ends 0 rsInvalid ⟨true, ⟨0x0F#8, 0xF2#8, 0x10#8, 0x20#8⟩⟩ := by decide

/-- V51 and V52, the byte after `RX 0x90 0x3C`, under the three policies (R99). -/
theorem test_mid_status_policies :
    after (.noteOff 0#4) noteHalf = begun 0x80#8 3#2 ∧
    after (.noteOff 0#4) (under .storeAsData noteHalf) = ends 0 0x90#8 ⟨true, ⟨0x09#8, 0x90#8, 0x3C#8, 0x80#8⟩⟩ ∧
    after (.noteOff 0#4) (under .ignore noteHalf)
      = some ⟨⟨0x90#8, 0x3C#8, 0x00#8⟩, 2#2, 3#2, rsInvalid, Latch.empty⟩ ∧
    after .tuneRequest noteHalf = ends 0 rsInvalid ⟨true, ⟨0x0F#8, 0xF6#8, 0x00#8, 0x00#8⟩⟩ ∧
    after .tuneRequest (under .ignore noteHalf)
      = some ⟨⟨0x90#8, 0x3C#8, 0x00#8⟩, 2#2, 3#2, rsInvalid, Latch.empty⟩ := by decide

/-- V55 and V56: TAKE of an empty latch and of a full one, the packet's bytes kept. -/
theorem test_take :
    (takeLatch State.reset).trace = [.took none] ∧
    (takeLatch { State.reset with hs := ⟨true, ⟨0x0F#8, 0xF8#8, 0x00#8, 0x00#8⟩⟩ }).trace
      = [.took (some ⟨0x0F#8, 0xF8#8, 0x00#8, 0x00#8⟩)] ∧
    after .take { State.reset with hs := ⟨true, ⟨0x0F#8, 0xF8#8, 0x00#8, 0x00#8⟩⟩ }
      = ends 0 rsInvalid ⟨false, ⟨0x0F#8, 0xF8#8, 0x00#8, 0x00#8⟩⟩ := by decide

/-- V61: a partial message and the latch do not survive RESET; MODE is sampled (R33). -/
theorem test_reset :
    after .reset { noteHalf with hs := ⟨true, ⟨0x0F#8, 0xF8#8, 0x00#8, 0x00#8⟩⟩ } = ends 0 rsInvalid Latch.empty ∧
    (resetBlock { State.reset with strap := 0#1 }).mode = .serial := by decide

/-! ### The environment -/

/-- Draws with nothing happening. -/
def quiet : Draws := ⟨true, false, true, none⟩

/-- The main loop at this point with a packet in the latch. -/
def looping (p : LoopPoint) : State :=
  { State.reset with hs := ⟨true, ⟨0x09#8, 0x90#8, 0x3C#8, 0x64#8⟩⟩, env := { Environment.initial with loop := p } }

/-- P4, line 4: the packet is sent and the indicator armed. -/
theorem test_dispatch :
    (mainLoopTurn { quiet with channelReady := true } (looping .dispatch)).env
      = ⟨.forward, 1, 0, [⟨⟨0x09#8, 0x90#8, 0x3C#8, 0x64#8⟩, true⟩], []⟩ := by decide

/-- P5, iteration 1, under both policies. -/
theorem test_forward :
    (mainLoopTurn { quiet with received := some ⟨0x0C#8, 0xC0#8, 0x05#8, 0x00#8⟩ } (looping .forward)).env.uartSent
      = [0xC0#8, 0x05#8, 0x00#8] ∧
    (mainLoopTurn { quiet with received := some ⟨0x0C#8, 0xC0#8, 0x05#8, 0x00#8⟩ }
      { looping .forward with params := { Params.default with forwardPolicy := .byLength } }).env.uartSent
      = [0xC0#8, 0x05#8] := by decide

/-- R166: a counter at 0 stays at 0, another goes down. -/
theorem test_indicators :
    (indicatorsTurn { State.reset with env := { Environment.initial with txCount := 3 } }).env.txCount = 2 ∧
    (indicatorsTurn State.reset).env.txCount = 0 := by decide

/-- R33: the strap level of the MIDI persona is a parameter. -/
theorem test_sample_persona :
    samplePersona { Params.default with strapMidiLevel := 0#1 } 0#1 = .midi ∧
    samplePersona { Params.default with strapMidiLevel := 0#1 } 1#1 = .serial := by decide

/-! ### Witnesses: what the statements assume can happen -/

/-- The next state, where there is one. -/
def nextOf (o : Host.Outcome State Fault Refusal) : Option State :=
  match o with
  | .next t => some t
  | .fault _ => none
  | .refused _ => none

theorem eq_next_of_nextOf {o : Host.Outcome State Fault Refusal} {t : State} (h : nextOf o = some t) : o = .next t := by
  cases o <;> simp_all [nextOf]

/-- A state outside INV (R24): FI is not below EL. -/
def broken : State := regs PendingMessage.empty 1#2 0#2 rsInvalid

/-- A 3-byte running-status message whose first data byte has come (V31). -/
def runningHalf : State := regs ⟨0x90#8, 0x00#8, 0x00#8⟩ 2#2 3#2 0x90#8

/-- `RX 0xF2 0x10` after a NoteOn (V33 with a running status). -/
def songHalf : State := regs ⟨0xF2#8, 0x10#8, 0x00#8⟩ 2#2 3#2 0x90#8

/-- A state in which these events wait. -/
def waiting (es : List HostEvent) (s : State) : State := { s with pending := es }

/-- The same state in the Serial persona. -/
def serial (s : State) : State := { s with mode := .serial, strap := 0#1 }

/-- The default policies but ABSORB_CLEARS_RS. -/
def absorbing (s : State) : State := { s with params := { s.params with absorbClearsRs := true } }

theorem witness_DecodeEncodeAgree : (Instr.pitchBend 0xF#4).wf = true ∧ encode (.pitchBend 0xF#4) ≠ [] := by decide

theorem witness_ClassifierFollowsOpcodeTable :
    ⟨"NoteOn", 0x90#8, 0xF0#8, .channelVoice, some 3, false, true⟩ ∈ opcodeRows ∧
    OpcodeRow.matchesByte ⟨"NoteOn", 0x90#8, 0xF0#8, .channelVoice, some 3, false, true⟩ 0x9F#8 = true := by decide

/-- The bounds of the ranges. -/
theorem witness_PredicatesMatchCategories :
    isCv 0x80#8 = true ∧ isCv 0xEF#8 = true ∧ isRt 0xF8#8 = true ∧ isRt 0xFF#8 = true ∧ isData 0x00#8 = true ∧ isData 0x7F#8 = true := by
  decide

theorem witness_EventByteUnderBothPolicies : isCv 0xEF#8 = true ∧ isRt 0xFE#8 = true := by decide

/-- At message start, with and without a running status (StatusByteStartsMessage, LengthlessStatusAbsorbed, OneByteMessageAtStart,
ThreeByteMessageAssembles, TwoByteMessageAssembles, MultiByteSystemCommonClearsRunningStatus, EveryInstructionCompletes). -/
theorem witness_at_start :
    (State.reset.DecoderInv ∧ State.reset.fi = 0#2) ∧ (atStart 0x80#8).DecoderInv ∧ (atStart 0xEF#8).DecoderInv ∧
    (absorbing (atStart 0x90#8)).DecoderInv ∧ (Instr.clock, 0xF8#8) ∈ oneByte ∧ (Instr.tuneRequest, 0xF6#8) ∈ oneByte ∧
    isCv 0xE0#8 = true := by
  and_intros <;> decide

theorem witness_IncompleteMessageWaits :
    State.reset.DecoderInv ∧ State.reset.fi = 0#2 ∧
    encodeOp (.songSelect) = .rx 0xF3#8 ∧ len (typeOf 0xF3#8) = some 2 ∧
    encodeOp (.noteOn 1#4) = .rx 0x91#8 ∧ len (typeOf 0x91#8) = some 3 ∧
    (atStart 0x90#8).DecoderInv ∧ (atStart 0x90#8).fi = 0#2 ∧ encodeOp (.dataByte 0x7F#7) = .rx 0x7F#8 ∧
    isCv (atStart 0x90#8).rs = true ∧ isData 0x7F#8 = true ∧ len (typeOf (atStart 0x90#8).rs) = some 3 := by
  and_intros <;> decide

/-- The three mid-message shapes, under every policy (RealTimeMidMessage, PendingDataByte, RealTimeInterleaves). -/
theorem witness_mid_message :
    (∀ m ∈ [MidStatusPolicy.abortRestart, .storeAsData, .ignore], ∀ s ∈ [noteBegun, noteHalf, programBegun, runningHalf, songHalf],
      (under m s).DecoderInv ∧ (under m s).fi ≠ 0#2) ∧
    (programBegun.fi = 1#2 ∧ programBegun.el = 2#2) ∧ (noteHalf.fi = 2#2 ∧ noteHalf.el = 3#2) ∧
    (noteBegun.fi = 1#2 ∧ noteBegun.el = 3#2) ∧ encodeOp (.dataByte 0x64#7) = .rx 0x64#8 ∧ (Instr.clock, 0xF8#8) ∈ realTime := by decide

theorem witness_RunningStatusDataByte :
    ((atStart 0xCF#8).DecoderInv ∧ (atStart 0xCF#8).fi = 0#2 ∧ isCv (atStart 0xCF#8).rs = true ∧
      len (typeOf (atStart 0xCF#8).rs) = some 2) ∧
    ((atStart 0x80#8).DecoderInv ∧ (atStart 0x80#8).fi = 0#2 ∧ isCv (atStart 0x80#8).rs = true ∧
      len (typeOf (atStart 0x80#8).rs) = some 3) := by
  and_intros <;> decide

theorem witness_RunningStatusExpands :
    (atStart 0xEF#8).DecoderInv ∧ (atStart 0xEF#8).fi = 0#2 ∧ isCv (atStart 0xEF#8).rs = true ∧
    len (typeOf (atStart 0xEF#8).rs) = some 3 := by
  and_intros <;> decide

theorem witness_StrayDataByteAbsorbed :
    (State.reset.DecoderInv ∧ State.reset.fi = 0#2 ∧ State.reset.rs = rsInvalid) ∧
    ((absorbing State.reset).DecoderInv ∧ (absorbing State.reset).rs = rsInvalid) := by
  and_intros <;> decide

/-- Each policy at each mid-message shape, with the first and the last byte that is a status and not real-time. -/
theorem witness_MidMessageStatusByPolicy :
    (∀ m ∈ [MidStatusPolicy.abortRestart, .storeAsData, .ignore], ∀ s ∈ [programBegun, noteHalf, noteBegun],
      (under m s).DecoderInv ∧ (under m s).fi ≠ 0#2 ∧ (under m s).params.midStatusPolicy = m) ∧
    (encodeOp (.noteOff 0#4) = .rx 0x80#8 ∧ isStatus 0x80#8 = true ∧ isRt 0x80#8 = false) ∧
    (encodeOp .undefinedFD = .rx 0xFD#8 ∧ isStatus 0xFD#8 = true ∧ isRt 0xFD#8 = false) := by decide

theorem witness_ByteRefusedExactlyOutsideInv :
    encodeOp .clock = .rx 0xF8#8 ∧ State.reset.DecoderInv ∧ ¬ broken.DecoderInv := by
  and_intros <;> decide

/-- One byte instruction that emits and one that does not. -/
theorem witness_ByteInstructionFrame :
    encodeOp .clock = .rx 0xF8#8 ∧ (∃ t, exec .clock noteHalf = .next t ∧ t.trace ≠ noteHalf.trace) ∧
    encodeOp .songSelect = .rx 0xF3#8 ∧ (∃ t, exec .songSelect State.reset = .next t ∧ t.trace = []) :=
  ⟨by decide, ⟨_, rfl, by decide⟩, by decide, ⟨_, rfl, by decide⟩⟩

/-- A TAKE, a strap change and a turn of the main loop, each mid-message; and a TAKE and a byte that answer. -/
theorem witness_OnlyBytesAndResetReachDecoder :
    (∀ e ∈ [HostEvent.op .take, .strap 0#1, .mainLoop quiet], (nextOf (step (waiting [e] noteHalf))).isSome ∧
      e ≠ .op .reset ∧ ∀ b, e ≠ .op (.rx b)) ∧
    (∃ t, exec .take noteHalf = .next t) ∧ encodeOp .clock = .rx 0xF8#8 ∧ (∃ t, exec .clock noteHalf = .next t) :=
  ⟨by decide, ⟨_, rfl⟩, by decide, ⟨_, rfl⟩⟩

/-- Each of the three writers of RS changes it somewhere. -/
theorem witness_RunningStatusWriters :
    (∃ t, exec (.dataByte 0x64#7) noteHalf = .next t ∧ t.rs ≠ noteHalf.rs) ∧
    (∃ t, exec (.dataByte 0x64#7) songHalf = .next t ∧ t.rs ≠ songHalf.rs) ∧
    (∃ t, exec .systemExclusive (absorbing (atStart 0x90#8)) = .next t ∧ t.rs ≠ 0x90#8) ∧
    (∃ t, exec .reset (atStart 0x90#8) = .next t ∧ t.rs ≠ 0x90#8) :=
  ⟨⟨_, rfl, by decide⟩, ⟨_, rfl, by decide⟩, ⟨_, rfl, by decide⟩, ⟨_, rfl, by decide⟩⟩

/-- Steps with nothing pending, with a byte, with a strap change and with a RESET at either level. -/
theorem witness_ConfigurationIsFixed :
    (∀ es ∈ [[], [HostEvent.op (.rx 0x90#8)], [.strap 0#1], [.op .reset]],
      (nextOf (step (waiting es State.reset))).isSome ∧ (nextOf (step (waiting es (serial State.reset)))).isSome) ∧
    (waiting [.strap 0#1] State.reset).pending = .strap 0#1 :: [] ∧ (waiting [.strap 1#1] (serial State.reset)).pending = .strap 1#1 :: [] ∧
    (waiting [.op .reset] State.reset).strap = State.reset.params.strapMidiLevel ∧
    (waiting [.op .reset] (serial State.reset)).strap ≠ State.reset.params.strapMidiLevel := by decide

/-- Two writes in a row in the observation, with the latch that they leave. -/
def overwritten : State :=
  { State.reset with
    hs := ⟨true, ⟨0x0F#8, 0xFA#8, 0x00#8, 0x00#8⟩⟩
    trace := [.took none, .wrote ⟨0x0F#8, 0xF8#8, 0x00#8, 0x00#8⟩, .wrote ⟨0x0F#8, 0xFA#8, 0x00#8, 0x00#8⟩] }

/-- The first clause: V57 as an observation. -/
theorem witness_OverwriteLosesFirstMessage_observed :
    overwritten.TraceInv ∧
    overwritten.trace
      = [.took none] ++ [.wrote ⟨0x0F#8, 0xF8#8, 0x00#8, 0x00#8⟩, .wrote ⟨0x0F#8, 0xFA#8, 0x00#8, 0x00#8⟩] :=
  ⟨⟨rfl, rfl, trivial⟩, rfl⟩

/-- Two emissions of two different packets with no TAKE between them. -/
theorem witness_OverwriteLosesFirstMessage :
    encodeOp .clock = .rx 0xF8#8 ∧ encodeOp .start = .rx 0xFA#8 ∧
    ∃ t u, exec .clock State.reset = .next t ∧ t.trace = State.reset.trace ++ [.wrote ⟨0x0F#8, 0xF8#8, 0x00#8, 0x00#8⟩] ∧
      exec .start t = .next u ∧ u.trace = t.trace ++ [.wrote ⟨0x0F#8, 0xFA#8, 0x00#8, 0x00#8⟩] :=
  ⟨by decide, by decide, _, _, rfl, by decide, rfl, by decide⟩

/-- Two states that differ in the latch and the persona, one that emits and one that does not. -/
theorem witness_DecoderIgnoresLatch :
    encodeOp (.dataByte 0x64#7) = .rx 0x64#8 ∧ noteHalf.pm = (serial noteHalf).pm ∧ noteHalf.fi = (serial noteHalf).fi ∧
    noteHalf.el = (serial noteHalf).el ∧ noteHalf.rs = (serial noteHalf).rs ∧ noteHalf.params = (serial noteHalf).params ∧
    { noteHalf with hs := ⟨true, zeroPacket⟩ }.hs ≠ (serial noteHalf).hs ∧
    (∃ t, exec (.dataByte 0x64#7) noteHalf = .next t) ∧ (∃ t, exec (.dataByte 0x64#7) noteBegun = .next t) :=
  ⟨by decide, rfl, rfl, rfl, rfl, rfl, by decide, ⟨_, rfl⟩, ⟨_, rfl⟩⟩

/-- Every event a step can take, in the persona the statement is about, and a step with none. -/
theorem witness_StepRunsDecodedInstruction :
    State.reset.mode = .midi ∧ (waiting [.op (.rx 0xFF#8)] State.reset).pending = .op (.rx 0xFF#8) :: [] ∧
    (waiting [.op .take, .op .take] State.reset).pending = .op .take :: [.op .take] ∧
    (waiting [.op .reset] (serial State.reset)).pending = .op .reset :: [] ∧ State.reset.pending = [] := by decide

theorem witness_SerialPersonaIsQuiet :
    ∀ e ∈ [HostEvent.op (.rx 0x90#8), .op .take, .mainLoop quiet],
      (serial State.reset).mode = .serial ∧ (waiting [e] (serial State.reset)).pending = e :: [] ∧ e ≠ .op .reset ∧
      ∀ l, e ≠ .strap l := by decide

theorem witness_BothOrdersAdmitted : noteHalf.DecoderInv ∧ noteHalf.mode = .midi := by decide

theorem witness_ResetMeetsInvariants : Params.wf Params.default = true ∧ Params.wf { Params.default with ticks := 100 } = true := by decide

/-- A legal state in each persona, from which a step answers (StepKeepsInvariant, StepAlwaysAnswers). -/
theorem witness_StepKeepsInvariant :
    (waiting [.op (.rx 0x64#8)] noteHalf).Inv ∧ (nextOf (step (waiting [.op (.rx 0x64#8)] noteHalf))).isSome ∧
    (waiting [.op (.rx 0x90#8)] (serial State.reset)).Inv ∧ (nextOf (step (waiting [.op (.rx 0x90#8)] (serial State.reset)))).isSome ∧
    (waiting [.mainLoop { quiet with channelReady := true }] (looping .dispatch)).Inv := by
  and_intros <;> decide

/-- A state with an observation behind it: two packets written, one of them taken. -/
def observed : State :=
  { State.reset with
    hs := ⟨true, ⟨0x0F#8, 0xFA#8, 0x00#8, 0x00#8⟩⟩
    trace := [.wrote ⟨0x0F#8, 0xF8#8, 0x00#8, 0x00#8⟩, .took (some ⟨0x0F#8, 0xF8#8, 0x00#8, 0x00#8⟩),
      .wrote ⟨0x0F#8, 0xFA#8, 0x00#8, 0x00#8⟩]
    pending := [.op .take] }

/-- Also for ReturnedInCompletionOrder, with a packet held. -/
theorem witness_StepKeepsTraceInvariant :
    observed.TraceInv ∧ observed.hs.valid = true ∧ (nextOf (step observed)).isSome :=
  ⟨⟨rfl, rfl, trivial⟩, rfl, by decide⟩

theorem witness_StepKeepsPacketFormat : observed.Inv ∧ observed.PacketsOk ∧ (nextOf (step observed)).isSome := by
  refine ⟨by decide, fun m hm => ?_, by decide⟩
  simp only [observed, List.mem_cons, TraceEvent.wrote.injEq, reduceCtorEq, List.not_mem_nil, or_false, false_or] at hm
  rcases hm with rfl | rfl <;> decide

/-- A boot, and a state one step after it (also EveryInstructionCompletes). -/
theorem witness_ReachableStatesAreSafe :
    Reachable (bootState Params.default 1#1 [.op (.rx 0x90#8)]) ∧
    ∃ t, Reachable t ∧ t.fi = 1#2 :=
  ⟨.boot _ _ _ (by decide), _, .step (.boot Params.default 1#1 [.op (.rx 0x90#8)] (by decide)) rfl, by decide⟩

/-- Two different states with the same observable part. -/
theorem witness_UnobservableStaysUnobserved :
    (waiting [.op (.rx 0x64#8)] noteBegun).DecoderInv ∧
    (waiting [.op (.rx 0x64#8)] { noteBegun with pm := ⟨0x90#8, 0x55#8, 0xAA#8⟩, hs := ⟨false, ⟨1#8, 2#8, 3#8, 4#8⟩⟩ }).DecoderInv ∧
    (waiting [.op (.rx 0x64#8)] noteBegun).SameObservable
      (waiting [.op (.rx 0x64#8)] { noteBegun with pm := ⟨0x90#8, 0x55#8, 0xAA#8⟩, hs := ⟨false, ⟨1#8, 2#8, 3#8, 4#8⟩⟩ }) ∧
    (nextOf (step (waiting [.op (.rx 0x64#8)] noteBegun))).isSome := by
  refine ⟨by decide, by decide, ⟨by decide, ?_⟩, by decide⟩
  decide

/-- Each clause: not ready, ready with an empty latch, ready with a packet. -/
theorem witness_DispatchSendsTakenMessage :
    State.reset.mode = .midi ∧ (looping .dispatch).mode = .midi ∧ (looping .dispatch).env.loop = .dispatch ∧
    (waiting [.mainLoop quiet] (looping .dispatch)).pending = .mainLoop quiet :: [] ∧ quiet.channelReady = false ∧
    { quiet with channelReady := true }.channelReady = true ∧ { looping .dispatch with hs := Latch.empty }.hs.valid = false ∧
    (looping .dispatch).hs.valid = true := by decide

theorem witness_ForwardWritesPayload :
    (looping .forward).mode = .midi ∧ (looping .forward).env.loop = .forward ∧ quiet.received = none ∧
    { quiet with received := some zeroPacket }.received = some zeroPacket ∧
    (waiting [.mainLoop quiet] (looping .forward)).pending = .mainLoop quiet :: [] := by decide

theorem witness_MainLoopOrder :
    ∀ p ∈ [LoopPoint.top, .indicators, .housekeeping], (looping p).mode = .midi ∧ (looping p).env.loop = p ∧
      (waiting [.mainLoop quiet] (looping p)).pending = .mainLoop quiet :: [] := by decide

theorem witness_ReceivedNoteIsSent :
    (looping .dispatch).DecoderInv ∧ (looping .dispatch).fi = 0#2 ∧ (looping .dispatch).mode = .midi ∧
    (looping .dispatch).env.loop = .dispatch ∧ { quiet with channelReady := true }.channelReady = true := by decide

end Sys2Proof.Tests
end

/-! PROOFS. What reaches the decoder's four registers, and what they reach (R6): the decoder step does not look at the environment, TAKE
and the main loop do not look at PM, FI, EL and RS, and no other event writes them. -/

namespace Sys2Proof.Machine

/-! ### The decoder step in another environment -/

/-- The same machine in another environment. -/
def withEnvironment (env : Environment) (s : State) : State := { s with env := env }

section OtherEnvironment

variable (env : Environment) (b : Byte) (s : State)

theorem withEnvironment_decoderInv : (withEnvironment env s).DecoderInv ↔ s.DecoderInv := Iff.rfl

@[simp] theorem withEnvironment_pm : (withEnvironment env s).pm = s.pm := rfl
@[simp] theorem withEnvironment_fi : (withEnvironment env s).fi = s.fi := rfl
@[simp] theorem withEnvironment_rs : (withEnvironment env s).rs = s.rs := rfl
@[simp] theorem withEnvironment_params : (withEnvironment env s).params = s.params := rfl
@[simp] theorem lastByte_withEnvironment : lastByte (withEnvironment env s) = lastByte s := rfl

@[simp] theorem writePm_withEnvironment (i : Nat) :
    writePm i b (withEnvironment env s) = withEnvironment env (writePm i b s) := rfl

@[simp] theorem setEl_withEnvironment (v : BitVec 2) :
    setEl v (withEnvironment env s) = withEnvironment env (setEl v s) := rfl

@[simp] theorem storeFirst_withEnvironment :
    storeFirst b (withEnvironment env s) = withEnvironment env (storeFirst b s) := by
  simp only [storeFirst, writePm_withEnvironment, withEnvironment_rs]
  rw [apply_ite (withEnvironment env)]
  rfl

theorem absorb_withEnvironment : absorb (withEnvironment env s) = withEnvironment env (absorb s) := by
  rw [absorb_eq, absorb_eq]; rfl

theorem emitOneByte_withEnvironment : emitOneByte (withEnvironment env s) = withEnvironment env (emitOneByte s) := rfl

theorem beginMessage_withEnvironment (n : Nat) :
    beginMessage n (withEnvironment env s) = withEnvironment env (beginMessage n s) := by
  simp only [beginMessage, setEl_withEnvironment, lastByte_withEnvironment]
  rw [apply_ite (withEnvironment env)]
  rfl

theorem storeNext_withEnvironment : storeNext b (withEnvironment env s) = withEnvironment env (storeNext b s) := by
  simp only [storeNext, writePm_withEnvironment, withEnvironment_fi, lastByte_withEnvironment]
  rw [apply_ite (withEnvironment env)]
  rfl

/-- START, by the length of the message that `PM[0]` begins (R92). -/
theorem rxStart_withEnvironment : rxStart b (withEnvironment env s) = withEnvironment env (rxStart b s) := by
  simp only [rxStart, storeFirst_withEnvironment, withEnvironment_pm]
  obtain h | h | h | h := len_eq (typeOf (storeFirst b s).pm.b0) <;> simp only [h]
  · exact absorb_withEnvironment env _
  · exact emitOneByte_withEnvironment env _
  · exact beginMessage_withEnvironment env _ 2
  · exact beginMessage_withEnvironment env _ 3

/-- R99, by the policy. -/
theorem midStatus_withEnvironment : midStatus b (withEnvironment env s) = withEnvironment env (midStatus b s) := by
  simp only [midStatus, withEnvironment_params]
  cases s.params.midStatusPolicy with
  | abortRestart => exact rxStart_withEnvironment env b (endMessage s)
  | ignore => rfl
  | storeAsData => exact storeNext_withEnvironment env b s

theorem rxMid_withEnvironment : rxMid b (withEnvironment env s) = withEnvironment env (rxMid b s) := by
  by_cases hd : isData b = true
  · rw [rxMid_data hd, rxMid_data hd, storeNext_withEnvironment]
  · have hs : isStatus b = true := by simpa [isStatus_eq_not_isData] using hd
    by_cases hr : isRt b = true
    · rw [rxMid_realTime hr, rxMid_realTime hr]; rfl
    · rw [Bool.not_eq_true] at hr
      rw [rxMid_status hs hr, rxMid_status hs hr, midStatus_withEnvironment]

/-- RX_BYTE does the same in every environment (R6, R90). -/
theorem rxStep_withEnvironment : rxStep b (withEnvironment env s) = withEnvironment env (rxStep b s) := by
  by_cases hf : s.fi = 0#2
  · rw [rxStep_of_start hf, rxStep_of_start (s := withEnvironment env s) hf, rxStart_withEnvironment]
  · rw [rxStep_of_mid hf, rxStep_of_mid (s := withEnvironment env s) hf, rxMid_withEnvironment]

end OtherEnvironment

/-- A byte leaves the environment alone (R104). -/
theorem rxStep_env (b : Byte) {s : State} (hi : s.DecoderInv) : (rxStep b s).env = s.env := by
  obtain ⟨-, -, -, -, -, -, henv, -⟩ := rxStep_emits b hi
  exact henv

/-! ### TAKE and the main loop over another decoder -/

/-- The same machine with other values in the decoder's four registers. -/
def withDecoder (pm : PendingMessage) (fi el : BitVec 2) (rs : Byte) (s : State) : State :=
  { s with pm := pm, fi := fi, el := el, rs := rs }

section OtherDecoder

variable (pm : PendingMessage) (fi el : BitVec 2) (rs : Byte) (d : Draws) (s : State)

theorem takeLatch_withDecoder :
    takeLatch (withDecoder pm fi el rs s) = withDecoder pm fi el rs (takeLatch s) := rfl

theorem dispatchTurn_withDecoder :
    dispatchTurn d (withDecoder pm fi el rs s) = withDecoder pm fi el rs (dispatchTurn d s) := by
  have hhs : (withDecoder pm fi el rs s).hs = s.hs := rfl
  simp only [dispatchTurn, hhs]
  cases d.channelReady with
  | false => rfl
  | true => cases s.hs.takeResult <;> rfl

theorem forwardTurn_withDecoder :
    forwardTurn d (withDecoder pm fi el rs s) = withDecoder pm fi el rs (forwardTurn d s) := by
  unfold forwardTurn
  cases d.received <;> rfl

/-- A turn of the main loop does the same whatever the decoder holds (R6, R160). -/
theorem mainLoopTurn_withDecoder :
    mainLoopTurn d (withDecoder pm fi el rs s) = withDecoder pm fi el rs (mainLoopTurn d s) := by
  have henv : (withDecoder pm fi el rs s).env = s.env := rfl
  simp only [mainLoopTurn, henv]
  cases s.env.loop with
  | top => rfl
  | dispatch => exact congrArg (moveLoop .forward) (dispatchTurn_withDecoder pm fi el rs d s)
  | forward => exact congrArg (moveLoop .indicators) (forwardTurn_withDecoder pm fi el rs d s)
  | indicators => rfl
  | housekeeping => rfl

end OtherDecoder

/-! ### Steps that do not reach the decoder -/

/-- A step that takes neither a byte nor a RESET leaves the decoder's registers alone (R6). -/
theorem step_keeps_decoder {s t : State} {e : HostEvent} {rest : List HostEvent} (hp : s.pending = e :: rest)
    (h : step s = .next t) (hrx : ∀ b, e ≠ .op (.rx b)) (hreset : e ≠ .op .reset) :
    t.pm = s.pm ∧ t.fi = s.fi ∧ t.el = s.el ∧ t.rs = s.rs := by
  obtain ⟨hnil, -⟩ | ⟨e', rest', hp', hcase⟩ := step_cases h
  · simp [hp] at hnil
  obtain ⟨rfl, rfl⟩ := List.cons.inj (hp.symm.trans hp')
  obtain ⟨b, he, -⟩ | ⟨-, -, rfl⟩ | ⟨he, -⟩ | ⟨l, -, rfl⟩ | ⟨d, -, -, rfl⟩ | ⟨-, -, -, rfl⟩ := hcase
  · exact absurd he (hrx b)
  · simp
  · exact absurd he hreset
  · simp
  · obtain ⟨hpm, hfi, hel, hrs, -⟩ := mainLoopTurn_registers d { s with pending := rest }
    exact ⟨hpm, hfi, hel, hrs⟩
  · simp

/-- Settles O23: the decoder step commutes with a change of the environment, TAKE and the main loop with a change of the decoder's
registers, and the step's inversion shows that nothing else writes them. -/
theorem onlyBytesAndResetReachDecoder : Obligations.OnlyBytesAndResetReachDecoder := by
  refine ⟨fun s t e rest hp h => step_keeps_decoder hp h, fun s t pm fi el rs h => ?_,
    fun s d pm fi el rs => mainLoopTurn_withDecoder pm fi el rs d s, fun s t i b env hb h => ?_⟩
  · obtain rfl : takeLatch s = t := Host.Outcome.next.inj h
    exact congrArg Host.Outcome.next (takeLatch_withDecoder pm fi el rs s)
  · rw [exec_of_encodeOp hb] at h ⊢
    obtain ⟨hi, rfl⟩ := rxByte_eq_next_iff.mp h
    exact ⟨rxStep_env b hi, rxByte_eq_next_iff.mpr
      ⟨(withEnvironment_decoderInv env s).mpr hi, rxStep_withEnvironment env b s⟩⟩

end Sys2Proof.Machine

/-! PROOFS. A message that START does not complete (R96): it waits, by either path, and nothing is emitted. -/

namespace Sys2Proof.Machine

/-- At message start an instruction with a byte answers START's state (R84, R90). -/
theorem exec_of_start {i : Instr} {b : Byte} {s : State} (hb : encodeOp i = .rx b) (hi : s.DecoderInv) (hf : s.fi = 0#2) :
    exec i s = .next (rxStart b s) := by
  rw [exec_of_encodeOp hb, rxByte_of_inv hi, rxStep_of_start hf]

/-- Settles O9: START's two incomplete shapes write PM, FI and EL only, with `FI = 1` after a fresh status byte and `FI = 2` under a
running status of a 3-byte type. -/
theorem incompleteMessageWaits : Obligations.IncompleteMessageWaits := by
  intro s i b hi hf hb
  rw [exec_of_start hb hi hf]
  refine ⟨fun n hlen hn => ⟨_, rfl, ?_⟩, fun hr hd hlen => ⟨_, rfl, ?_⟩⟩
  · have hel : (BitVec.ofNat 2 n).toNat = n := by rcases hn with rfl | rfl <;> rfl
    rw [rxStart_begin hlen hn hf]
    exact ⟨rfl, hel, rfl, rfl, rfl, rfl⟩
  · rw [rxStart_running_three hr hd hlen]
    exact ⟨rfl, rfl, rfl, rfl, rfl⟩

end Sys2Proof.Machine

/-! PROOFS. The single slot overwritten (R154): the latch holds the last packet written, the next TAKE returns that one, and the TAKE after it
returns Empty. -/

namespace Sys2Proof.Machine

/-- A write at the end of an observation is what the latch then holds, over whatever came before (R151). -/
@[simp] theorem replay_append_wrote (h : Latch) (t : List TraceEvent) (p : Packet) :
    replay h (t ++ [.wrote p]) = (replay h t).write p := by
  simp [replay, latchAfter]

/-- Of two writes in a row at the end of an observation the first leaves nothing behind (R154). -/
theorem replay_append_wrote_wrote (h : Latch) (t : List TraceEvent) (p q : Packet) :
    replay h (t ++ [.wrote p, .wrote q]) = replay h (t ++ [.wrote q]) := by
  rw [List.append_cons, replay_append_wrote, replay_append_wrote, replay_append_wrote, Latch.write_write]

/-- After an instruction with a byte that emitted `p`, a TAKE returns `p`, whatever the latch held before (R151, R152). -/
theorem takeResult_of_exec_wrote {s t : State} {i : Instr} {b : Byte} {p : Packet} (hb : encodeOp i = .rx b)
    (h : exec i s = .next t) (ht : t.trace = s.trace ++ [.wrote p]) : t.hs.takeResult = some p := by
  rw [exec_of_encodeOp hb] at h
  obtain ⟨hi, rfl⟩ := rxByte_eq_next_iff.mp h
  obtain ⟨more, htrace, hlatch, -⟩ := rxStep_emits b hi
  obtain rfl : more = [.wrote p] := List.append_cancel_left (htrace.symm.trans ht)
  obtain ⟨hnil, -⟩ | ⟨p', hp', hhs⟩ := hlatch
  · simp at hnil
  · obtain rfl : p = p' := by simpa using hp'
    rw [hhs]; rfl

/-- Where the latch holds `q`, a TAKE returns `q` and the TAKE after it Empty (R152). -/
theorem take_take_of_takeResult {s : State} {q : Packet} (h : s.hs.takeResult = some q) :
    ∃ v w, exec .take s = .next v ∧ v.trace = s.trace ++ [.took (some q)] ∧
      exec .take v = .next w ∧ w.trace = v.trace ++ [.took none] :=
  ⟨takeLatch s, takeLatch (takeLatch s), rfl, by rw [takeLatch_trace, h], rfl,
    by rw [takeLatch_trace (takeLatch s), takeLatch_hs, Latch.takeResult_clear]⟩

/-- Settles O31: after either pair of emissions the latch holds the second packet, by the replay of the observation in the first clause and
by what an emission leaves in the second. -/
theorem overwriteLosesFirstMessage : Obligations.OverwriteLosesFirstMessage := by
  refine ⟨fun s before p q hinv htrace => ?_, fun s t u i j b c p q _ hj _ _ hu hq => ?_⟩
  · obtain ⟨hreplay, -⟩ := hinv
    have hhs : s.hs = (replay Latch.empty before).write q := by
      rw [← hreplay, htrace, replay_append_wrote_wrote, replay_append_wrote]
    exact take_take_of_takeResult (by rw [hhs, Latch.takeResult_write])
  · exact take_take_of_takeResult (takeResult_of_exec_wrote hj hu hq)

end Sys2Proof.Machine

/-! PROOFS. INV (R24) holds in every reachable state: START, MID and the storing of a data byte keep it, and nothing else a step does breaks
it. So no byte of a run is refused (R180). -/

namespace Sys2Proof.Machine

/-! ### The places in which INV lets the decoder stand -/

/-- INV reads PM, FI, EL, RS and the parameters only. -/
theorem State.DecoderInv.congr {s t : State} (hi : s.DecoderInv) (hpm : t.pm = s.pm) (hfi : t.fi = s.fi) (hel : t.el = s.el)
    (hrs : t.rs = s.rs) (hparams : t.params = s.params) : t.DecoderInv := by
  simpa only [State.DecoderInv, hpm, hfi, hel, hrs, hparams] using hi

/-- After the status byte of a 2- or a 3-byte message nothing is asked of the bytes of PM behind it. -/
theorem decoderInv_of_fi_one {s : State} {n : Nat} (hf : s.fi = 1#2) (hn : n = 2 ∨ n = 3) (he : s.el = BitVec.ofNat 2 n)
    (hlen : len (typeOf s.pm.b0) = some n) (hr : s.rs = rsInvalid ∨ isCv s.rs = true) : s.DecoderInv := by
  refine ⟨by simp [hf], fun _ => ?_, hr⟩
  rw [hf, he, hlen]
  obtain rfl | rfl := hn
  · exact ⟨.inl rfl, by decide, rfl, fun _ i hlt hge => absurd hlt (Nat.not_lt.mpr hge)⟩
  · exact ⟨.inr rfl, by decide, rfl, fun _ i hlt hge => absurd hlt (Nat.not_lt.mpr hge)⟩

/-- After the first data byte of a 3-byte message the byte stored at `PM[1]` is a data byte, except under StoreAsData. -/
theorem decoderInv_of_fi_two {s : State} (hf : s.fi = 2#2) (he : s.el = 3#2) (hlen : len (typeOf s.pm.b0) = some 3)
    (hd : s.params.midStatusPolicy ≠ .storeAsData → isData s.pm.b1 = true) (hr : s.rs = rsInvalid ∨ isCv s.rs = true) :
    s.DecoderInv := by
  refine ⟨by simp [hf], fun _ => ?_, hr⟩
  rw [hf, he, hlen]
  refine ⟨.inr rfl, by decide, rfl, fun hp i hlt hge => ?_⟩
  obtain rfl : i = 1 := Nat.le_antisymm (Nat.lt_succ_iff.mp hlt) hge
  exact hd hp

/-! ### The decoder step keeps INV -/

/-- The running status that a completed pending message leaves (R101). -/
theorem rs_ok_of_completed (b : Byte) :
    (if isCv b then b else rsInvalid) = rsInvalid ∨ isCv (if isCv b then b else rsInvalid) = true := by
  by_cases h : isCv b = true
  · exact .inr (by rw [if_pos h, h])
  · exact .inl (if_neg h)

/-- START keeps INV (R91 to R96). -/
theorem rxStart_decoderInv (b : Byte) {s : State} (hi : s.DecoderInv) (hf : s.fi = 0#2) : (rxStart b s).DecoderInv := by
  have hrs := hi.rs_ok
  obtain ⟨-, -, h⟩ | ⟨-, h⟩ | ⟨n, hn, hlen, h⟩ | ⟨hr, -, -, h⟩ | ⟨hr, hd, hlen, h⟩ := rxStart_cases (b := b) hf <;> rw [h]
  · refine (decoderInv_of_fi_zero (by simpa using hf)).mpr ⟨absorb_el _, ?_⟩
    rw [absorb_rs]
    cases (writePm 0 b s).params.absorbClearsRs with
    | true => exact .inl rfl
    | false => exact hrs
  · exact endMessage_decoderInv hrs
  · exact decoderInv_of_fi_one rfl hn rfl hlen hrs
  · exact endMessage_decoderInv (.inr hr)
  · exact decoderInv_of_fi_two rfl rfl hlen (fun _ => hd) hrs

/-- Storing the next byte of a pending message keeps INV, a status byte only under StoreAsData (R99 to R102). -/
theorem storeNext_decoderInv {b : Byte} {s : State} (hi : s.DecoderInv) (hf : s.fi ≠ 0#2)
    (hd : s.params.midStatusPolicy ≠ .storeAsData → isData b = true) : (storeNext b s).DecoderInv := by
  obtain ⟨h1, h2, -⟩ | ⟨h1, h2, hlen⟩ | ⟨h1, h2, -⟩ := hi.mid hf
  · rw [storeNext_two h1 h2]
    exact endMessage_decoderInv (rs_ok_of_completed s.pm.b0)
  · rw [storeNext_first h1 h2]
    exact decoderInv_of_fi_two rfl h2 hlen hd hi.rs_ok
  · rw [storeNext_second h1 h2]
    exact endMessage_decoderInv (rs_ok_of_completed s.pm.b0)

/-- MID keeps INV under every policy (R98 to R102). -/
theorem rxMid_decoderInv (b : Byte) {s : State} (hi : s.DecoderInv) (hf : s.fi ≠ 0#2) : (rxMid b s).DecoderInv := by
  obtain ⟨-, h⟩ | ⟨-, -, -, h⟩ | ⟨-, -, -, h⟩ | ⟨hd, h⟩ := rxMid_cases b s <;> rw [h]
  · exact hi.congr rfl rfl rfl rfl rfl
  · exact rxStart_decoderInv b (endMessage_decoderInv hi.rs_ok) rfl
  · exact hi
  · exact storeNext_decoderInv hi hf hd

/-- RX_BYTE keeps INV (R24, R90). -/
theorem rxStep_decoderInv (b : Byte) {s : State} (hi : s.DecoderInv) : (rxStep b s).DecoderInv := by
  by_cases hf : s.fi = 0#2
  · rw [rxStep_of_start hf]
    exact rxStart_decoderInv b hi hf
  · rw [rxStep_of_mid hf]
    exact rxMid_decoderInv b hi hf

/-! ### Every reachable state meets INV -/

/-- Every step keeps INV, whatever event it takes (R24). -/
theorem step_decoderInv {s t : State} (hi : s.DecoderInv) (h : step s = .next t) : t.DecoderInv := by
  obtain ⟨-, rfl⟩ | ⟨e, rest, -, hcase⟩ := step_cases h
  · exact hi
  have hfetched : State.DecoderInv { s with pending := rest } := hi
  obtain ⟨b, -, -, -, rfl⟩ | ⟨-, -, rfl⟩ | ⟨-, rfl⟩ | ⟨l, -, rfl⟩ | ⟨d, -, -, rfl⟩ | ⟨-, -, -, rfl⟩ := hcase
  · exact rxStep_decoderInv b hfetched
  · exact hi.congr rfl rfl rfl rfl rfl
  · exact (decoderInv_of_fi_zero rfl).mpr ⟨rfl, .inl rfl⟩
  · exact hi.congr rfl rfl rfl rfl rfl
  · obtain ⟨hpm, hfi, hel, hrs, -, -, hparams, -⟩ := mainLoopTurn_registers d { s with pending := rest }
    exact hfetched.congr hpm hfi hel hrs hparams
  · exact hfetched

/-- INV holds at every boot and every step keeps it (R24, R200). -/
theorem Reachable.decoderInv {s : State} (h : Reachable s) : s.DecoderInv := by
  induction h with
  | boot p l events hp => exact (decoderInv_of_fi_zero rfl).mpr ⟨rfl, .inl rfl⟩
  | step hs ht ih => exact step_decoderInv ih ht

/-! ### Every instruction completes -/

theorem eq_take_of_encodeOp {i : Instr} (h : encodeOp i = .take) : i = .take := by
  cases i <;> simp [encodeOp] at h ⊢

theorem eq_reset_of_encodeOp {i : Instr} (h : encodeOp i = .reset) : i = .reset := by
  cases i <;> simp [encodeOp] at h ⊢

/-- In a state that meets INV an instruction answers a next state, whichever port operation it is (R4, R180). -/
theorem exec_eq_next_of_inv {s : State} (hi : s.DecoderInv) (i : Instr) : ∃ t, exec i s = .next t := by
  cases h : encodeOp i with
  | rx b => exact ⟨rxStep b s, (exec_of_encodeOp h s).trans (rxByte_of_inv hi b)⟩
  | take => exact ⟨takeLatch s, by rw [eq_take_of_encodeOp h]; rfl⟩
  | reset => exact ⟨resetBlock s, by rw [eq_reset_of_encodeOp h]; rfl⟩

/-- Settles O18: there is no fault to raise, TAKE and RESET ask nothing of the state, and a byte asks for INV, which every reachable state
meets. -/
theorem everyInstructionCompletes : Obligations.EveryInstructionCompletes :=
  ⟨fun _ _ f => (nomatch f),
   fun _ b hs => exec_eq_next_of_inv hs.decoderInv (decodeByte b),
   fun s => ⟨takeLatch s, rfl⟩,
   fun s => ⟨resetBlock s, rfl⟩,
   fun _ i hi => exec_eq_next_of_inv hi i⟩

end Sys2Proof.Machine

/-! PROOFS. Decoding and encoding (R60, R61, R63, R84): each undoes the other, on instructions, port operations and lists of bytes. -/

namespace Sys2Proof.Machine

/-! ### A status byte and its two nibbles -/

@[simp] theorem highNibble_byteOfNibbles (hi lo : BitVec 4) : highNibble (byteOfNibbles hi lo) = hi := by
  simp only [highNibble, byteOfNibbles, BitVec.extractLsb'_append_eq_left]

@[simp] theorem lowNibble_byteOfNibbles (hi lo : BitVec 4) : lowNibble (byteOfNibbles hi lo) = lo := by
  simp only [lowNibble, byteOfNibbles, BitVec.extractLsb'_append_eq_right]

/-! ### Bytes and instructions -/

/-- No bit of a byte is dropped by decoding it: its nibbles, or its seven bits, give it back. -/
theorem encodeOp_decodeByte (b : Byte) : encodeOp (decodeByte b) = .rx b := by
  revert b; decide

theorem decodeByte_byteOfSeven (d : BitVec 7) : decodeByte (byteOfSeven d) = .dataByte d := by
  revert d; decide

/-- No two instructions share an encoding: a channel-voice byte gives back its class and its channel, a data byte its value. -/
theorem decodeOp_encodeOp (i : Instr) : decodeOp (encodeOp i) = i := by
  cases i with
  | dataByte d => exact decodeByte_byteOfSeven d
  | noteOff n | noteOn n | afterTouchPoly n | controlChange n | programChange n | afterTouchChannel n | pitchBend n =>
    simp [encodeOp, decodeOp, decodeByte]
  | _ => rfl

theorem encodeOp_decodeOp (o : PortOp) : encodeOp (decodeOp o) = o := by
  cases o with
  | rx b => exact encodeOp_decodeByte b
  | take => rfl
  | reset => rfl

/-- An instruction with bytes has the one byte that it decodes from. -/
theorem encode_of_ne_nil {i : Instr} (h : encode i ≠ []) : ∃ b, encode i = [b] ∧ decodeByte b = i := by
  have hdec := decodeOp_encodeOp i
  unfold encode at h ⊢
  cases ho : encodeOp i with
  | rx b => exact ⟨b, rfl, by rw [← hdec, ho]; rfl⟩
  | take => simp [ho] at h
  | reset => simp [ho] at h

/-- Settles O2: the round trips of an instruction and of a port operation, and the one byte that an encoded instruction is. -/
theorem decodeEncodeAgree : Obligations.DecodeEncodeAgree := by
  refine ⟨fun i _ => decodeOp_encodeOp i, encodeOp_decodeOp, fun i rest h => ?_⟩
  obtain ⟨b, henc, hdec⟩ := encode_of_ne_nil h
  rw [henc, List.singleton_append, decodeBytes, hdec]

end Sys2Proof.Machine

/-! PROOFS. What a step does with each event that waits (R33, R46): the equations of `step`, one per event and persona, and that a machine
which meets INV always steps. -/

namespace Sys2Proof.Machine

/-! ### One event each -/

section Events

variable {s : State} {rest : List HostEvent}

/-- In the MIDI persona a byte that waits is received (R4, R90). -/
theorem step_rx_of_midi {b : Byte} (hm : s.mode = .midi) (hp : s.pending = .op (.rx b) :: rest) :
    step s = rxByte b { s with pending := rest } := by
  rw [step_of_pending hp, deliver, inMidiPersona_of_midi (s := { s with pending := rest }) hm, runOp_rx]

theorem step_take_of_midi (hm : s.mode = .midi) (hp : s.pending = .op .take :: rest) :
    step s = .next (takeLatch { s with pending := rest }) := by
  rw [step_of_pending hp, deliver, inMidiPersona_of_midi (s := { s with pending := rest }) hm, runOp_take]

theorem step_mainLoop_of_midi {d : Draws} (hm : s.mode = .midi) (hp : s.pending = .mainLoop d :: rest) :
    step s = .next (mainLoopTurn d { s with pending := rest }) := by
  rw [step_of_pending hp, deliver, inMidiPersona_of_midi (s := { s with pending := rest }) hm, runMainLoop]

/-- In either persona (R201). -/
theorem step_reset (hp : s.pending = .op .reset :: rest) :
    step s = .next (bootEnvironment (resetBlock { s with pending := rest })) := by
  rw [step_of_pending hp, deliver, runReset_eq]

/-- In either persona (R4, R33). -/
theorem step_strap {l : Level} (hp : s.pending = .strap l :: rest) :
    step s = .next { s with strap := l, pending := rest } := by
  rw [step_of_pending hp, deliver]

/-- In the Serial persona every other event is dropped (R33, R169, D16). -/
theorem step_of_serial {e : HostEvent} (hm : s.mode = .serial) (hp : s.pending = e :: rest) (hreset : e ≠ .op .reset)
    (hstrap : ∀ l, e ≠ .strap l) : step s = .next { s with pending := rest } := by
  have hm' : State.mode { s with pending := rest } = .serial := hm
  rw [step_of_pending hp]
  cases e with
  | op o =>
    cases o with
    | rx b => exact inMidiPersona_of_serial hm' _
    | take => exact inMidiPersona_of_serial hm' _
    | reset => exact absurd rfl hreset
  | strap l => exact absurd rfl (hstrap l)
  | mainLoop d => exact inMidiPersona_of_serial hm' _

end Events

/-- A byte takes nothing of what waits behind it (R46, R104). -/
theorem rxStep_pending (b : Byte) {s : State} (hi : s.DecoderInv) : (rxStep b s).pending = s.pending := by
  obtain ⟨-, -, -, -, -, -, -, hpending⟩ := rxStep_emits b hi
  exact hpending

/-- From a state that meets INV the machine steps, and takes the first event that waits (R46, R180). -/
theorem step_answers {s : State} (hi : s.DecoderInv) : ∃ t, step s = .next t ∧ t.pending = s.pending.tail := by
  cases hp : s.pending with
  | nil => exact ⟨s, step_of_idle hp, hp⟩
  | cons e rest =>
    have hfetched : State.DecoderInv { s with pending := rest } := hi
    cases hm : s.mode with
    | serial =>
      by_cases hreset : e = .op .reset
      · subst hreset; exact ⟨_, step_reset hp, rfl⟩
      by_cases hstrap : ∃ l, e = .strap l
      · obtain ⟨l, rfl⟩ := hstrap; exact ⟨_, step_strap hp, rfl⟩
      · exact ⟨_, step_of_serial hm hp hreset (not_exists.mp hstrap), rfl⟩
    | midi =>
      cases e with
      | op o =>
        cases o with
        | rx b => exact ⟨_, (step_rx_of_midi hm hp).trans (rxByte_of_inv hfetched b), rxStep_pending b hfetched⟩
        | take => exact ⟨_, step_take_of_midi hm hp, rfl⟩
        | reset => exact ⟨_, step_reset hp, rfl⟩
      | strap l => exact ⟨_, step_strap hp, rfl⟩
      | mainLoop d =>
        obtain ⟨-, -, -, -, -, -, -, hpending⟩ := mainLoopTurn_registers d { s with pending := rest }
        exact ⟨_, step_mainLoop_of_midi hm hp, hpending⟩

/-- Settles O33: the equations of `step` for a byte, a TAKE, a RESET and nothing, with the byte read back from its instruction. -/
theorem stepRunsDecodedInstruction : Obligations.StepRunsDecodedInstruction := by
  have hdec : ∀ (b : Byte) (s : State), exec (decodeByte b) s = rxByte b s := fun b => runOp_rx b
  refine fun s rest => ⟨fun b hm hp => ?_, step_take_of_midi, fun hp => ⟨_, rfl, step_reset hp⟩, step_of_idle, fun w => ?_⟩
  · rw [hdec, step_rx_of_midi hm hp]
  · rw [hdec, step_rx_of_midi (s := s.withFetchWord 8 w) rfl rfl]
    rfl

/-- Settles O34. -/
theorem serialPersonaIsQuiet : Obligations.SerialPersonaIsQuiet :=
  fun _ _ _ hm hp hreset hstrap => step_of_serial hm hp hreset hstrap

/-- Settles O38: of the invariant the step asks for INV only. -/
theorem stepAlwaysAnswers : Obligations.StepAlwaysAnswers :=
  fun _ hinv => step_answers hinv.1

end Sys2Proof.Machine

/-! PROOFS. The machine's invariant, the latch's history and the configuration, kept by every step (R24, R33, R34, R48, R151, R152). -/

namespace Sys2Proof.Machine

/-! ### The frame of RX_BYTE -/

/-- What RX_BYTE does to the latch and the observation: nothing, or one write (R27, R104). -/
theorem rxStep_latch (b : Byte) {s : State} (hi : s.DecoderInv) :
    ((rxStep b s).hs = s.hs ∧ (rxStep b s).trace = s.trace) ∨
    ∃ p, (rxStep b s).hs = ⟨true, p⟩ ∧ (rxStep b s).trace = s.trace ++ [.wrote p] := by
  obtain ⟨more, htrace, ⟨rfl, hhs⟩ | ⟨p, rfl, hhs⟩, -⟩ := rxStep_emits b hi
  · exact .inl ⟨hhs, htrace.trans (List.append_nil _)⟩
  · exact .inr ⟨p, hhs, htrace⟩

/-- What is not the decoder's RX_BYTE leaves alone (R104). -/
theorem rxStep_frame (b : Byte) {s : State} (hi : s.DecoderInv) :
    (rxStep b s).mode = s.mode ∧ (rxStep b s).strap = s.strap ∧ (rxStep b s).params = s.params ∧
    (rxStep b s).env = s.env ∧ (rxStep b s).pending = s.pending := by
  obtain ⟨-, -, -, hframe⟩ := rxStep_emits b hi
  exact hframe

/-- Settles O22: the frame of RX_BYTE, in a state that meets INV, which a byte that answers needs. -/
theorem byteInstructionFrame : Obligations.ByteInstructionFrame := by
  intro s t i b hb h
  rw [exec_of_encodeOp hb] at h
  obtain ⟨hi, rfl⟩ := rxByte_eq_next_iff.mp h
  exact ⟨rxStep_latch b hi, rxStep_frame b hi⟩

/-! ### The configuration (R33, R34) -/

/-- Every step leaves the parameters (R34). -/
theorem step_params {s t : State} (h : step s = .next t) : t.params = s.params := by
  obtain ⟨-, rfl⟩ | ⟨e, rest, -, hcase⟩ := step_cases h
  · rfl
  obtain ⟨b, -, -, hi, rfl⟩ | ⟨-, -, rfl⟩ | ⟨-, rfl⟩ | ⟨l, -, rfl⟩ | ⟨d, -, -, rfl⟩ | ⟨-, -, -, rfl⟩ := hcase
  · obtain ⟨-, -, hparams, -⟩ := rxStep_frame b (s := { s with pending := rest }) hi
    exact hparams
  · rfl
  · rfl
  · rfl
  · obtain ⟨-, -, -, -, -, -, hparams, -⟩ := mainLoopTurn_registers d { s with pending := rest }
    exact hparams
  · rfl

/-- Only a strap event moves the strap (R33). -/
theorem step_strap_eq {s t : State} (h : step s = .next t) (hstrap : ∀ l, s.pending.head? ≠ some (.strap l)) :
    t.strap = s.strap := by
  obtain ⟨-, rfl⟩ | ⟨e, rest, hp, hcase⟩ := step_cases h
  · rfl
  obtain ⟨b, -, -, hi, rfl⟩ | ⟨-, -, rfl⟩ | ⟨-, rfl⟩ | ⟨l, rfl, -⟩ | ⟨d, -, -, rfl⟩ | ⟨-, -, -, rfl⟩ := hcase
  · obtain ⟨-, heq, -⟩ := rxStep_frame b (s := { s with pending := rest }) hi
    exact heq
  · rfl
  · rfl
  · exact absurd (by rw [hp]; rfl) (hstrap l)
  · obtain ⟨-, -, -, -, -, heq, -⟩ := mainLoopTurn_registers d { s with pending := rest }
    exact heq
  · rfl

/-- Only RESET writes MODE (R33, D15). -/
theorem step_mode_eq {s t : State} (h : step s = .next t) (hreset : s.pending.head? ≠ some (.op .reset)) :
    t.mode = s.mode := by
  obtain ⟨-, rfl⟩ | ⟨e, rest, hp, hcase⟩ := step_cases h
  · rfl
  obtain ⟨b, -, -, hi, rfl⟩ | ⟨-, -, rfl⟩ | ⟨rfl, -⟩ | ⟨l, -, rfl⟩ | ⟨d, -, -, rfl⟩ | ⟨-, -, -, rfl⟩ := hcase
  · obtain ⟨heq, -⟩ := rxStep_frame b (s := { s with pending := rest }) hi
    exact heq
  · rfl
  · exact absurd (by rw [hp]; rfl) hreset
  · rfl
  · obtain ⟨-, -, -, -, heq, -⟩ := mainLoopTurn_registers d { s with pending := rest }
    exact heq
  · rfl

/-- Settles O25: what every step leaves of the configuration, and the equations of a RESET and of a strap event. -/
theorem configurationIsFixed : Obligations.ConfigurationIsFixed := by
  refine ⟨fun s t h => ⟨step_params h, step_strap_eq h, step_mode_eq h, fun hreset => ?_⟩, fun s l rest hp => step_strap hp⟩
  obtain ⟨rest, hp⟩ := List.head?_eq_some_iff.mp hreset
  obtain rfl := Host.Outcome.next.inj ((step_reset hp).symm.trans h)
  rfl

/-! ### The quiet Serial persona and the counters -/

/-- No turn of the main loop takes a counter past TICKS (R166). -/
theorem mainLoopTurn_countersBounded (d : Draws) {s : State} (hc : s.CountersBounded) : (mainLoopTurn d s).CountersBounded := by
  obtain ⟨htx, hrx⟩ := hc
  unfold mainLoopTurn
  cases s.env.loop with
  | top => exact ⟨htx, hrx⟩
  | dispatch =>
    obtain ⟨-, h⟩ | ⟨-, -, h⟩ | ⟨m, -, -, h⟩ := dispatchTurn_cases d s <;> rw [h]
    · exact ⟨htx, hrx⟩
    · exact ⟨htx, hrx⟩
    · exact ⟨le_refl _, hrx⟩
  | forward =>
    obtain ⟨-, h⟩ | ⟨p, -, h⟩ := forwardTurn_cases d s <;> rw [h]
    · exact ⟨htx, hrx⟩
    · exact ⟨htx, le_refl _⟩
  | indicators => exact ⟨(Nat.sub_le _ _).trans htx, (Nat.sub_le _ _).trans hrx⟩
  | housekeeping => exact ⟨htx, hrx⟩

/-- The counters' bound is kept: a byte and a TAKE do not reach the environment, RESET clears the counters (R166). -/
theorem step_countersBounded {s t : State} (hc : s.CountersBounded) (h : step s = .next t) : t.CountersBounded := by
  obtain ⟨-, rfl⟩ | ⟨e, rest, -, hcase⟩ := step_cases h
  · exact hc
  obtain ⟨b, -, -, hi, rfl⟩ | ⟨-, -, rfl⟩ | ⟨-, rfl⟩ | ⟨l, -, rfl⟩ | ⟨d, -, -, rfl⟩ | ⟨-, -, -, rfl⟩ := hcase
  · obtain ⟨-, -, hparams, henv, -⟩ := rxStep_frame b (s := { s with pending := rest }) hi
    rw [State.CountersBounded, hparams, henv]
    exact hc
  · exact hc
  · exact ⟨Nat.zero_le _, Nat.zero_le _⟩
  · exact hc
  · exact mainLoopTurn_countersBounded d (s := { s with pending := rest }) hc
  · exact hc

/-- Whatever the block does in the MIDI persona leaves it there. -/
theorem serialQuiet_of_midi {s : State} (hm : s.mode = .midi) : s.SerialQuiet :=
  fun hserial => by rw [hm] at hserial; cases hserial

/-- A Serial persona is quiet: RESET, which alone enters it, leaves the reset values, and nothing but another RESET or a strap change
happens in it (R33, R169). -/
theorem step_serialQuiet {s t : State} (hq : s.SerialQuiet) (h : step s = .next t) : t.SerialQuiet := by
  obtain ⟨-, rfl⟩ | ⟨e, rest, -, hcase⟩ := step_cases h
  · exact hq
  obtain ⟨b, -, hm, hi, rfl⟩ | ⟨-, hm, rfl⟩ | ⟨-, rfl⟩ | ⟨l, -, rfl⟩ | ⟨d, -, hm, rfl⟩ | ⟨-, -, -, rfl⟩ := hcase
  · obtain ⟨hmode, -⟩ := rxStep_frame b (s := { s with pending := rest }) hi
    exact serialQuiet_of_midi (hmode.trans hm)
  · exact serialQuiet_of_midi hm
  · exact fun _ => ⟨rfl, rfl, rfl, rfl, rfl, rfl, rfl, rfl⟩
  · exact hq
  · obtain ⟨-, -, -, -, hmode, -⟩ := mainLoopTurn_registers d { s with pending := rest }
    exact serialQuiet_of_midi (hmode.trans hm)
  · exact hq

/-- Settles O37: each part of the invariant is kept. -/
theorem stepKeepsInvariant : Obligations.StepKeepsInvariant := by
  rintro s t ⟨hi, hwf, hq, hc⟩ h
  exact ⟨step_decoderInv hi h, by rw [step_params h, hwf], step_serialQuiet hq h, step_countersBounded hc h⟩

/-! ### The latch and its history -/

/-- What an observation makes of a latch, its last entry apart. -/
theorem replay_append (h : Latch) (t : List TraceEvent) (e : TraceEvent) : replay h (t ++ [e]) = latchAfter (replay h t) e := by
  simp [replay]

/-- An entry may stand next in an observation of a latch: a TAKE's result is what the latch holds (R152). -/
def ReturnsHeld (h : Latch) (e : TraceEvent) : Prop := ∀ r, e = .took r → r = h.takeResult

theorem takesReturnHeld_append {t : List TraceEvent} {h : Latch} {e : TraceEvent} (ht : takesReturnHeld h t)
    (he : ReturnsHeld (replay h t) e) : takesReturnHeld h (t ++ [e]) := by
  induction t generalizing h with
  | nil =>
    cases e with
    | wrote p => trivial
    | took r => exact ⟨he r rfl, trivial⟩
    | wasReset m => trivial
  | cons a t ih =>
    cases a with
    | wrote p => exact ih (h := h.write p) ht he
    | took r => exact ⟨ht.1, ih (h := h.clear) ht.2 he⟩
    | wasReset m => exact ih (h := Latch.empty) ht he

/-- What a step may do to the latch and the observation: nothing, or what one more entry says. -/
def ObservedStep (s t : State) : Prop :=
  (t.hs = s.hs ∧ t.trace = s.trace) ∨
  ∃ e, t.trace = s.trace ++ [e] ∧ t.hs = latchAfter s.hs e ∧ ReturnsHeld s.hs e

theorem ObservedStep.traceInv {s t : State} (hst : ObservedStep s t) (hs : s.TraceInv) : t.TraceInv := by
  obtain ⟨hreplay, htakes⟩ := hs
  obtain ⟨hhs, htrace⟩ | ⟨e, htrace, hhs, he⟩ := hst
  · exact ⟨by rw [htrace, hreplay, hhs], by rw [htrace]; exact htakes⟩
  · exact ⟨by rw [htrace, replay_append, hreplay, hhs],
      by rw [htrace]; exact takesReturnHeld_append htakes (by rw [hreplay]; exact he)⟩

theorem returnsHeld_wrote (h : Latch) (p : Packet) : ReturnsHeld h (.wrote p) := fun _ he => (nomatch he)

theorem returnsHeld_took (h : Latch) : ReturnsHeld h (.took h.takeResult) := fun _ he => (TraceEvent.took.inj he).symm

theorem returnsHeld_wasReset (h : Latch) (m : Persona) : ReturnsHeld h (.wasReset m) := fun _ he => (nomatch he)

/-- The latch changes only by what is observed: an emission, a TAKE or a RESET (R27, R28). -/
theorem step_observed {s t : State} (h : step s = .next t) : ObservedStep s t := by
  obtain ⟨-, rfl⟩ | ⟨e, rest, -, hcase⟩ := step_cases h
  · exact .inl ⟨rfl, rfl⟩
  obtain ⟨b, -, -, hi, rfl⟩ | ⟨-, -, rfl⟩ | ⟨-, rfl⟩ | ⟨l, -, rfl⟩ | ⟨d, -, -, rfl⟩ | ⟨-, -, -, rfl⟩ := hcase
  · obtain hsame | ⟨p, hhs, htrace⟩ := rxStep_latch b (s := { s with pending := rest }) hi
    · exact .inl hsame
    · exact .inr ⟨_, htrace, hhs, returnsHeld_wrote _ p⟩
  · exact .inr ⟨_, rfl, rfl, returnsHeld_took _⟩
  · exact .inr ⟨_, rfl, rfl, returnsHeld_wasReset _ _⟩
  · exact .inl ⟨rfl, rfl⟩
  · obtain hsame | ⟨hhs, htrace⟩ := mainLoopTurn_latch d { s with pending := rest }
    · exact .inl hsame
    · exact .inr ⟨_, htrace, hhs, returnsHeld_took _⟩
  · exact .inl ⟨rfl, rfl⟩

/-- Settles O39: what a step does to the latch is what the entry that it observes says. -/
theorem stepKeepsTraceInvariant : Obligations.StepKeepsTraceInvariant :=
  fun _ _ hs h => (step_observed h).traceInv hs

/-! ### Completion order (R48) -/

/-- What TAKE returned, then what the latch holds, are some of what it held at first and what was written since, in that order. -/
theorem returned_sublist_written {t : List TraceEvent} {h : Latch} (ht : takesReturnHeld h t) :
    (returnedOf t ++ (replay h t).takeResult.toList).Sublist (h.takeResult.toList ++ writesOf t) := by
  induction t generalizing h with
  | nil => simp [replay, returnedOf, writesOf]
  | cons a t ih =>
    cases a with
    | wrote p => exact (ih (h := h.write p) ht).trans (List.sublist_append_right _ _)
    | took r =>
      obtain ⟨rfl, htail⟩ := ht
      have hreturned : returnedOf (.took h.takeResult :: t) = h.takeResult.toList ++ returnedOf t := by
        cases h.takeResult <;> rfl
      rw [hreturned, List.append_assoc]
      exact (ih (h := h.clear) htail).append_left _
    | wasReset m => exact (ih (h := Latch.empty) ht).trans (List.sublist_append_right _ _)

/-- Settles O42: from the reset latch, which holds nothing. -/
theorem returnedInCompletionOrder : Obligations.ReturnedInCompletionOrder := by
  rintro s ⟨hreplay, htakes⟩
  have hsub := returned_sublist_written htakes
  rw [hreplay] at hsub
  refine ⟨(List.sublist_append_left _ _).trans hsub, fun hvalid => ?_⟩
  rw [Latch.takeResult_eq_some.mpr ⟨hvalid, rfl⟩] at hsub
  exact hsub

end Sys2Proof.Machine

/-! PROOFS. Every packet the block writes is a CompleteMessage (R71, R80 to R82), and with that the safety of every reachable state. -/

namespace Sys2Proof.Machine

/-! ### The three lengths of a CompleteMessage -/

section Format

variable {params : Config.Params} {b d1 d2 : Byte}

theorem isData_zero : isData 0x00#8 = true := by decide

/-- A 1-byte message, with zero fill (R82, R94). -/
theorem packetOk_one (h : len (typeOf b) = some 1) :
    PacketOk params (completeMessage params.eventCodePolicy b 0x00#8 0x00#8) :=
  ⟨rfl, highNibble_eventByte _, .inl ⟨h, rfl, rfl⟩, fun _ => ⟨isData_zero, isData_zero⟩⟩

/-- A 2-byte message, its last place zero filled (R82). -/
theorem packetOk_two (h : len (typeOf b) = some 2) (hd : params.midStatusPolicy ≠ .storeAsData → isData d1 = true) :
    PacketOk params (completeMessage params.eventCodePolicy b d1 0x00#8) :=
  ⟨rfl, highNibble_eventByte _, .inr (.inl ⟨h, rfl⟩), fun hp => ⟨hd hp, isData_zero⟩⟩

theorem packetOk_three (h : len (typeOf b) = some 3) (hd1 : params.midStatusPolicy ≠ .storeAsData → isData d1 = true)
    (hd2 : params.midStatusPolicy ≠ .storeAsData → isData d2 = true) :
    PacketOk params (completeMessage params.eventCodePolicy b d1 d2) :=
  ⟨rfl, highNibble_eventByte _, .inr (.inr h), fun hp => ⟨hd1 hp, hd2 hp⟩⟩

end Format

/-! ### What is written -/

/-- Where nothing is written the packets are what they were. -/
theorem State.PacketsOk.congr {s t : State} (hs : s.PacketsOk) (htrace : t.trace = s.trace) (hparams : t.params = s.params) :
    t.PacketsOk := by
  intro m hm
  rw [htrace] at hm
  rw [hparams]
  exact hs m hm

/-- One more entry: if it is a write its packet must have the format. -/
theorem State.PacketsOk.append {s t : State} {e : TraceEvent} (hs : s.PacketsOk) (htrace : t.trace = s.trace ++ [e])
    (hparams : t.params = s.params) (he : ∀ m, e = .wrote m → PacketOk s.params m) : t.PacketsOk := by
  intro m hm
  rw [htrace, List.mem_append, List.mem_singleton] at hm
  rw [hparams]
  obtain hm | hm := hm
  · exact hs m hm
  · exact he m hm.symm

/-- A write of a packet that has the format. -/
theorem State.PacketsOk.wrote {s t : State} {p : Packet} (hs : s.PacketsOk) (htrace : t.trace = s.trace ++ [.wrote p])
    (hparams : t.params = s.params) (hok : PacketOk s.params p) : t.PacketsOk :=
  hs.append htrace hparams (fun _ hm => TraceEvent.wrote.inj hm ▸ hok)

theorem rxStart_packetsOk (b : Byte) {s : State} (hf : s.fi = 0#2) (hs : s.PacketsOk) : (rxStart b s).PacketsOk := by
  obtain ⟨-, -, h⟩ | ⟨hlen, h⟩ | ⟨n, -, -, h⟩ | ⟨-, hd, hlen, h⟩ | ⟨-, -, -, h⟩ := rxStart_cases (b := b) hf <;> rw [h]
  · exact hs.congr (absorb_trace _) (absorb_params _)
  · exact hs.wrote rfl rfl (packetOk_one hlen)
  · exact hs.congr rfl rfl
  · exact hs.wrote rfl rfl (packetOk_two hlen fun _ => hd)
  · exact hs.congr rfl rfl

/-- INV vouches for the status byte and for the data byte that already wait in PM (R24). -/
theorem storeNext_packetsOk {b : Byte} {s : State} (hi : s.DecoderInv) (hf : s.fi ≠ 0#2)
    (hd : s.params.midStatusPolicy ≠ .storeAsData → isData b = true) (hs : s.PacketsOk) : (storeNext b s).PacketsOk := by
  obtain ⟨h1, h2, hlen⟩ | ⟨h1, h2, -⟩ | ⟨h1, h2, hlen, hd1⟩ := hi.mid hf
  · rw [storeNext_two h1 h2]
    exact hs.wrote rfl rfl (packetOk_two hlen hd)
  · rw [storeNext_first h1 h2]
    exact hs.congr rfl rfl
  · rw [storeNext_second h1 h2]
    exact hs.wrote rfl rfl (packetOk_three hlen hd1 hd)

theorem rxStep_packetsOk (b : Byte) {s : State} (hi : s.DecoderInv) (hs : s.PacketsOk) : (rxStep b s).PacketsOk := by
  by_cases hf : s.fi = 0#2
  · rw [rxStep_of_start hf]
    exact rxStart_packetsOk b hf hs
  rw [rxStep_of_mid hf]
  obtain ⟨hrt, h⟩ | ⟨-, -, -, h⟩ | ⟨-, -, -, h⟩ | ⟨hd, h⟩ := rxMid_cases b s <;> rw [h]
  · exact hs.wrote rfl rfl (packetOk_one (isRt_iff_len_one.mpr (.inl hrt)))
  · exact rxStart_packetsOk b (s := endMessage s) rfl hs
  · exact hs
  · exact storeNext_packetsOk hi hf hd hs

/-- Only a byte writes packets: TAKE and RESET are observed as what they are. -/
theorem step_packetsOk {s t : State} (hs : s.PacketsOk) (h : step s = .next t) : t.PacketsOk := by
  obtain ⟨-, rfl⟩ | ⟨e, rest, -, hcase⟩ := step_cases h
  · exact hs
  have hfetched : State.PacketsOk { s with pending := rest } := hs
  obtain ⟨b, -, -, hi, rfl⟩ | ⟨-, -, rfl⟩ | ⟨-, rfl⟩ | ⟨l, -, rfl⟩ | ⟨d, -, -, rfl⟩ | ⟨-, -, -, rfl⟩ := hcase
  · exact rxStep_packetsOk b hi hfetched
  · exact hs.append rfl rfl (fun _ hm => nomatch hm)
  · exact hs.append rfl rfl (fun _ hm => nomatch hm)
  · exact hs.congr rfl rfl
  · obtain ⟨-, -, -, -, -, -, hparams, -⟩ := mainLoopTurn_registers d { s with pending := rest }
    obtain ⟨-, htrace⟩ | ⟨-, htrace⟩ := mainLoopTurn_latch d { s with pending := rest }
    · exact hfetched.congr htrace hparams
    · exact hfetched.append htrace hparams (fun _ hm => nomatch hm)
  · exact hs

/-- Settles O40: by the shapes of START, MID and the storing of a data byte; that a step answers already says that a byte met INV. -/
theorem stepKeepsPacketFormat : Obligations.StepKeepsPacketFormat :=
  fun _ _ _ hs h => step_packetsOk hs h

/-! ### Every reachable state -/

/-- At a boot the decoder is at message start, the counters are 0 and nothing is observed (R200, R203). -/
theorem bootState_safe (p : Config.Params) (l : Level) (events : List HostEvent) (hp : p.wf = true) :
    (bootState p l events).Inv ∧ (bootState p l events).TraceInv ∧ (bootState p l events).PacketsOk :=
  ⟨⟨(decoderInv_of_fi_zero rfl).mpr ⟨rfl, .inl rfl⟩, hp, fun _ => ⟨rfl, rfl, rfl, rfl, rfl, rfl, rfl, rfl⟩,
    Nat.zero_le _, Nat.zero_le _⟩, ⟨rfl, trivial⟩, fun _ hm => absurd hm List.not_mem_nil⟩

/-- Settles O36: `State.reset` is the boot with the default parameters, the strap at 1 and nothing pending. -/
theorem resetMeetsInvariants : Obligations.ResetMeetsInvariants :=
  ⟨bootState_safe Config.Params.default 1#1 [] (by decide), bootState_safe⟩

/-- The three invariants hold at every boot and every step keeps them. -/
theorem Reachable.safe {s : State} (h : Reachable s) : s.Inv ∧ s.TraceInv ∧ s.PacketsOk := by
  induction h with
  | boot p l events hp => exact bootState_safe p l events hp
  | step _ ht ih =>
    obtain ⟨hinv, htrace, hpackets⟩ := ih
    exact ⟨stepKeepsInvariant _ _ hinv ht, stepKeepsTraceInvariant _ _ htrace ht, step_packetsOk hpackets ht⟩

/-- Settles O41: the invariants, and that INV makes the machine step on. -/
theorem reachableStatesAreSafe : Obligations.ReachableStatesAreSafe := by
  intro s h
  obtain ⟨hinv, htrace, hpackets⟩ := h.safe
  obtain ⟨t, ht, -⟩ := step_answers hinv.1
  exact ⟨hinv, htrace, hpackets, t, ht⟩

end Sys2Proof.Machine

/-! PROOFS. What the decoder depends on (R28, R156, U5): two machines with the same FI, EL, RS and parameters that agree on PM before FI answer a
byte alike and emit the same, whatever their latches and all else hold. -/

namespace Sys2Proof.Machine

/-! ### Decoders that agree -/

/-- The two decoders agree on FI, EL, RS, the parameters, and the bytes of PM before FI and before `n`: with `n = 0` on what can be observed
of PM, with `n = 3` on all of it. -/
def SameDecoder (n : Nat) (s u : State) : Prop :=
  (∀ i < max n s.fi.toNat, s.pm.read i = u.pm.read i) ∧ s.fi = u.fi ∧ s.el = u.el ∧ s.rs = u.rs ∧ s.params = u.params

/-- From `s` to `t` and from `u` to `v` the same was emitted, nothing or a packet that both latches then hold. -/
def SameEmission (s t u v : State) : Prop :=
  (t.trace = s.trace ∧ v.trace = u.trace ∧ t.hs = s.hs ∧ v.hs = u.hs) ∨
  ∃ p, t.trace = s.trace ++ [.wrote p] ∧ v.trace = u.trace ++ [.wrote p] ∧ t.hs = ⟨true, p⟩ ∧ v.hs = ⟨true, p⟩

/-- Both went alike: the decoders agree afterwards too, and the emission was the same. -/
def Alike (n : Nat) (s t u v : State) : Prop := SameDecoder n t v ∧ SameEmission s t u v

/-- The same byte stored at the same place: PM agrees there too. -/
theorem PendingMessage.write_congr {p q : PendingMessage} {m n i : Nat} (b : Byte) (h : ∀ j < n, p.read j = q.read j)
    (hi : i < 3) (hm : ∀ j < m, j < n ∨ j = i) : ∀ j < m, (p.write i b).read j = (q.write i b).read j := by
  intro j hj
  have hread : j ≠ i → p.read j = q.read j := fun hne => h j ((hm j hj).resolve_right hne)
  obtain rfl | rfl | rfl : i = 0 ∨ i = 1 ∨ i = 2 := by omega
  · obtain _ | _ | j := j
    · rfl
    · exact hread Nat.one_ne_zero
    · exact hread (by omega)
  · obtain _ | _ | j := j
    · exact hread Nat.zero_ne_one
    · rfl
    · exact hread (by omega)
  · obtain _ | _ | j := j
    · exact hread (by decide)
    · exact hread (by decide)
    · rfl

section Pair

variable {n : Nat} {s u : State}

/-- INV asks only for what the two agree on. -/
theorem SameDecoder.decoderInv (h : SameDecoder n s u) (hi : s.DecoderInv) : u.DecoderInv := by
  obtain ⟨hpm, hfi, hel, hrs, hparams⟩ := h
  by_cases hf : s.fi = 0#2
  · exact (decoderInv_of_fi_zero (hfi ▸ hf)).mpr (by rw [← hel, ← hrs]; exact (decoderInv_of_fi_zero hf).mp hi)
  have hb0 : s.pm.b0 = u.pm.b0 := by
    refine hpm 0 (lt_max_of_lt_right ?_)
    obtain ⟨h1, -⟩ | ⟨h1, -⟩ | ⟨h1, -⟩ := hi.mid hf <;> rw [h1] <;> decide
  obtain ⟨h1, h2, hlen⟩ | ⟨h1, h2, hlen⟩ | ⟨h1, h2, hlen, hd⟩ := hi.mid hf
  · exact decoderInv_of_fi_one (n := 2) (hfi ▸ h1) (.inl rfl) (hel ▸ h2) (hb0 ▸ hlen) (hrs ▸ hi.rs_ok)
  · exact decoderInv_of_fi_one (n := 3) (hfi ▸ h1) (.inr rfl) (hel ▸ h2) (hb0 ▸ hlen) (hrs ▸ hi.rs_ok)
  · have hb1 : s.pm.b1 = u.pm.b1 := hpm 1 (lt_max_of_lt_right (by rw [h1]; decide))
    exact decoderInv_of_fi_two (hfi ▸ h1) (hel ▸ h2) (hb0 ▸ hlen) (hparams ▸ hb1 ▸ hd) (hrs ▸ hi.rs_ok)

/-! ### The decoder step -/

/-- START goes alike: its cases ask for RS and the byte alone, and what it emits is in PM by then (R91 to R96). -/
theorem rxStart_alike (b : Byte) (h : SameDecoder n s u) (hf : s.fi = 0#2) : Alike n s (rxStart b s) u (rxStart b u) := by
  obtain ⟨hpm, hfi, hel, hrs, hparams⟩ := h
  have hfu : u.fi = 0#2 := hfi ▸ hf
  have hpm0 : ∀ j < n, s.pm.read j = u.pm.read j := fun j hj => hpm j (lt_max_of_lt_left hj)
  obtain ⟨hlen, hr, h⟩ | ⟨hlen, h⟩ | ⟨k, hk, hlen, h⟩ | ⟨hr, hd, hlen, h⟩ | ⟨hr, hd, hlen, h⟩ :=
    rxStart_cases (b := b) hf <;> rw [h]
  · rw [rxStart_absorb hlen (hrs ▸ hr)]
    refine ⟨⟨?_, by simpa using hfi, by simp, by simp [hrs, hparams], by simpa using hparams⟩, .inl (by simp)⟩
    rw [absorb_fi, absorb_pm, absorb_pm, writePm_fi, hf]
    exact PendingMessage.write_congr b hpm0 (by omega) (by simp; omega)
  · rw [rxStart_one hlen]
    exact ⟨⟨fun _ _ => rfl, rfl, rfl, hrs, hparams⟩,
      .inr ⟨completeMessage s.params.eventCodePolicy b 0x00#8 0x00#8, rfl, by rw [hparams]; rfl, rfl, by rw [hparams]; rfl⟩⟩
  · rw [rxStart_begin hlen hk hfu]
    exact ⟨⟨PendingMessage.write_congr b hpm0 (by omega) (by simp), rfl, rfl, hrs, hparams⟩, .inl ⟨rfl, rfl, rfl, rfl⟩⟩
  · rw [rxStart_running_two (hrs ▸ hr) hd (hrs ▸ hlen)]
    exact ⟨⟨fun _ _ => rfl, rfl, rfl, hrs, hparams⟩,
      .inr ⟨completeMessage s.params.eventCodePolicy s.rs b 0x00#8, rfl, by rw [hparams, hrs]; rfl, rfl, by rw [hparams, hrs]; rfl⟩⟩
  · rw [rxStart_running_three (hrs ▸ hr) hd (hrs ▸ hlen)]
    have hpm1 := PendingMessage.write_congr (m := n) b hpm0 (by omega : 0 < 3) (by omega)
    have hpm2 := PendingMessage.write_congr (m := max n 1) s.rs hpm1 (by omega : 0 < 3) (by omega)
    have hpm3 := PendingMessage.write_congr (m := max n 2) b hpm2 (by omega : 1 < 3) (by omega)
    exact ⟨⟨by rw [← hrs]; exact hpm3, rfl, rfl, hrs, hparams⟩, .inl ⟨rfl, rfl, rfl, rfl⟩⟩

/-- Mid-message the two agree on the status byte. -/
theorem SameDecoder.b0_eq (h : SameDecoder n s u) (hf : s.fi ≠ 0#2) : s.pm.b0 = u.pm.b0 :=
  h.1 0 (lt_max_of_lt_right (Nat.pos_of_ne_zero fun h0 => hf (BitVec.eq_of_toNat_eq h0)))

/-- The byte stored next goes alike: the rest of a message that it completes was in PM before FI (R100 to R102). -/
theorem storeNext_alike (b : Byte) (h : SameDecoder n s u) (hi : s.DecoderInv) (hf : s.fi ≠ 0#2) :
    Alike n s (storeNext b s) u (storeNext b u) := by
  have hb0 := h.b0_eq hf
  obtain ⟨hpm, hfi, hel, hrs, hparams⟩ := h
  obtain ⟨h1, h2, -⟩ | ⟨h1, h2, -⟩ | ⟨h1, h2, -⟩ := hi.mid hf
  · rw [storeNext_two h1 h2, storeNext_two (hfi ▸ h1) (hel ▸ h2)]
    exact ⟨⟨fun _ _ => rfl, rfl, rfl, by rw [hb0]; rfl, hparams⟩,
      .inr ⟨completeMessage s.params.eventCodePolicy s.pm.b0 b 0x00#8, rfl, by rw [hparams, hb0]; rfl, rfl, by rw [hparams, hb0]; rfl⟩⟩
  · rw [storeNext_first h1 h2, storeNext_first (hfi ▸ h1) (hel ▸ h2)]
    rw [h1] at hpm
    exact ⟨⟨PendingMessage.write_congr (m := max n 2) (n := max n 1) b hpm (by omega) (by omega), rfl, hel, hrs, hparams⟩,
      .inl ⟨rfl, rfl, rfl, rfl⟩⟩
  · rw [storeNext_second h1 h2, storeNext_second (hfi ▸ h1) (hel ▸ h2)]
    have hb1 : s.pm.b1 = u.pm.b1 := hpm 1 (lt_max_of_lt_right (by rw [h1]; decide))
    exact ⟨⟨fun _ _ => rfl, rfl, rfl, by rw [hb0]; rfl, hparams⟩,
      .inr ⟨completeMessage s.params.eventCodePolicy s.pm.b0 s.pm.b1 b, rfl, by rw [hparams, hb0, hb1]; rfl, rfl,
        by rw [hparams, hb0, hb1]; rfl⟩⟩

/-- R98 to R102. -/
theorem rxMid_alike (b : Byte) (h : SameDecoder n s u) (hi : s.DecoderInv) (hf : s.fi ≠ 0#2) :
    Alike n s (rxMid b s) u (rxMid b u) := by
  by_cases hd : isData b = true
  · rw [rxMid_data hd, rxMid_data hd]
    exact storeNext_alike b h hi hf
  have hs : isStatus b = true := by simpa [isStatus_eq_not_isData] using hd
  have hstore := storeNext_alike b h hi hf
  have hsame := h
  obtain ⟨hpm, hfi, hel, hrs, hparams⟩ := h
  by_cases hr : isRt b = true
  · rw [rxMid_realTime hr, rxMid_realTime hr]
    exact ⟨hsame, .inr ⟨completeMessage s.params.eventCodePolicy b 0x00#8 0x00#8, rfl, by rw [hparams]; rfl, rfl, by rw [hparams]; rfl⟩⟩
  rw [Bool.not_eq_true] at hr
  rw [rxMid_status hs hr, rxMid_status hs hr, midStatus, midStatus, ← hparams]
  cases s.params.midStatusPolicy with
  | abortRestart =>
    have hended : SameDecoder n (endMessage s) (endMessage u) := ⟨fun _ _ => rfl, rfl, rfl, hrs, hparams⟩
    exact rxStart_alike b hended rfl
  | ignore => exact ⟨hsame, .inl ⟨rfl, rfl, rfl, rfl⟩⟩
  | storeAsData => exact hstore

/-- RX_BYTE goes alike (R90, R156). -/
theorem rxStep_alike (b : Byte) (h : SameDecoder n s u) (hi : s.DecoderInv) : Alike n s (rxStep b s) u (rxStep b u) := by
  have hfi : s.fi = u.fi := h.2.1
  by_cases hf : s.fi = 0#2
  · rw [rxStep_of_start hf, rxStep_of_start (hfi ▸ hf)]
    exact rxStart_alike b h hf
  · rw [rxStep_of_mid hf, rxStep_of_mid (hfi ▸ hf)]
    exact rxMid_alike b h hi hf

end Pair

/-! ### The latch, the environment and what waits do not matter (R156) -/

/-- Two decoders that agree on all three bytes of PM. -/
theorem sameDecoder_of_eq {s u : State} (hpm : s.pm = u.pm) (hfi : s.fi = u.fi) (hel : s.el = u.el) (hrs : s.rs = u.rs)
    (hparams : s.params = u.params) : SameDecoder 3 s u :=
  ⟨fun _ _ => by rw [hpm], hfi, hel, hrs, hparams⟩

/-- Agreement on three bytes is all of PM. -/
theorem SameDecoder.registers {s u : State} (h : SameDecoder 3 s u) :
    s.pm = u.pm ∧ s.fi = u.fi ∧ s.el = u.el ∧ s.rs = u.rs := by
  obtain ⟨hpm, hfi, hel, hrs, -⟩ := h
  have hread : ∀ i < 3, s.pm.read i = u.pm.read i := fun i hi => hpm i (lt_max_of_lt_left hi)
  have hb0 : s.pm.b0 = u.pm.b0 := hread 0 (by decide)
  have hb1 : s.pm.b1 = u.pm.b1 := hread 1 (by decide)
  have hb2 : s.pm.b2 = u.pm.b2 := hread 2 (by decide)
  refine ⟨?_, hfi, hel, hrs⟩
  cases hs : s.pm
  cases hu : u.pm
  simp only [hs, hu] at hb0 hb1 hb2
  rw [hb0, hb1, hb2]

/-- The same emission, as the entries that both observations gained. -/
theorem SameEmission.more {s t u v : State} (h : SameEmission s t u v) :
    ∃ more, t.trace = s.trace ++ more ∧ v.trace = u.trace ++ more ∧
      (more = [] → t.hs = s.hs ∧ v.hs = u.hs) ∧ (more ≠ [] → t.hs = v.hs) := by
  obtain ⟨ht, hv, hst, huv⟩ | ⟨p, ht, hv, hst, huv⟩ := h
  · exact ⟨[], by simp [ht], by simp [hv], fun _ => ⟨hst, huv⟩, fun hne => absurd rfl hne⟩
  · exact ⟨[.wrote p], ht, hv, fun hnil => by simp at hnil, fun _ => hst.trans huv.symm⟩

/-- What two machines with equal decoders do with a byte: their registers end equal and they emit the same. -/
theorem rxStep_of_sameDecoder (b : Byte) {s u : State} (h : SameDecoder 3 s u) (hi : s.DecoderInv) :
    ((rxStep b s).pm = (rxStep b u).pm ∧ (rxStep b s).fi = (rxStep b u).fi ∧ (rxStep b s).el = (rxStep b u).el ∧
      (rxStep b s).rs = (rxStep b u).rs) ∧
    ∃ more, (rxStep b s).trace = s.trace ++ more ∧ (rxStep b u).trace = u.trace ++ more ∧
      (more = [] → (rxStep b s).hs = s.hs ∧ (rxStep b u).hs = u.hs) ∧ (more ≠ [] → (rxStep b s).hs = (rxStep b u).hs) := by
  obtain ⟨hdec, hemit⟩ := rxStep_alike b h hi
  exact ⟨hdec.registers, hemit.more⟩

/-- Settles O32: RX_BYTE goes alike from decoders that agree, and INV holds of both or of neither. -/
theorem decoderIgnoresLatch : Obligations.DecoderIgnoresLatch := by
  intro s s' t i b hb hpm hfi hel hrs hparams h
  rw [exec_of_encodeOp hb] at h
  obtain ⟨hi, rfl⟩ := rxByte_eq_next_iff.mp h
  have hsame := sameDecoder_of_eq hpm hfi hel hrs hparams
  obtain ⟨⟨hpm', hfi', hel', hrs'⟩, more, hmore⟩ := rxStep_of_sameDecoder b hsame hi
  exact ⟨rxStep b s', more, (exec_of_encodeOp hb s').trans (rxByte_of_inv (hsame.decoderInv hi) b), hpm', hfi', hel', hrs', hmore⟩

/-- The machine with these events waiting. -/
def withEvents (es : List HostEvent) (s : State) : State := { s with pending := es }

/-- A byte, then a TAKE (R46). -/
theorem step_rx_take {s : State} {b : Byte} {rest : List HostEvent} (hi : s.DecoderInv) (hm : s.mode = .midi) :
    step (withEvents (.op (.rx b) :: .op .take :: rest) s) = .next (rxStep b (withEvents (.op .take :: rest) s)) ∧
    step (rxStep b (withEvents (.op .take :: rest) s))
      = .next (takeLatch (withEvents rest (rxStep b (withEvents (.op .take :: rest) s)))) := by
  have hi' : (withEvents (.op .take :: rest) s).DecoderInv := hi
  obtain ⟨hmode, -⟩ := rxStep_frame b hi'
  exact ⟨(step_rx_of_midi (s := withEvents (.op (.rx b) :: .op .take :: rest) s) hm rfl).trans (rxByte_of_inv hi' b),
    step_take_of_midi (hmode.trans hm) (rxStep_pending b hi')⟩

/-- A TAKE, then a byte (R46). -/
theorem step_take_rx {s : State} {b : Byte} {rest : List HostEvent} (hi : s.DecoderInv) (hm : s.mode = .midi) :
    step (withEvents (.op .take :: .op (.rx b) :: rest) s) = .next (withEvents (.op (.rx b) :: rest) (takeLatch s)) ∧
    step (withEvents (.op (.rx b) :: rest) (takeLatch s)) = .next (rxStep b (withEvents rest (takeLatch s))) := by
  have hi' : (withEvents rest (takeLatch s)).DecoderInv := hi
  exact ⟨step_take_of_midi (s := withEvents (.op .take :: .op (.rx b) :: rest) s) hm rfl,
    (step_rx_of_midi (s := withEvents (.op (.rx b) :: rest) (takeLatch s)) hm rfl).trans (rxByte_of_inv hi' b)⟩

/-- Settles O35: the TAKE leaves the decoder's registers alone, so the byte goes alike before it and after it. -/
theorem bothOrdersAdmitted : Obligations.BothOrdersAdmitted := by
  intro s b rest hi hm
  obtain ⟨hbyte, hthenTake⟩ := step_rx_take (b := b) (rest := rest) hi hm
  obtain ⟨htake, hthenByte⟩ := step_take_rx (b := b) (rest := rest) hi hm
  have hsame : SameDecoder 3 (withEvents (.op .take :: rest) s) (withEvents rest (takeLatch s)) :=
    sameDecoder_of_eq rfl rfl rfl rfl rfl
  obtain ⟨⟨hpm, hfi, hel, hrs⟩, more, htrace, htrace', -⟩ := rxStep_of_sameDecoder b hsame hi
  have hpending := rxStep_pending b (s := withEvents rest (takeLatch s)) hi
  exact ⟨_, _, _, _, more, hbyte, hthenTake, htake, hthenByte, rfl, hpending, hpm, hfi, hel, hrs, htrace, rfl, rfl, htrace'⟩

/-! ### What is never observable (R28, U5) -/

/-- States that differ only in what is not observable have decoders that agree on PM before FI. -/
theorem State.SameObservable.sameDecoder {s u : State} (h : s.SameObservable u) : SameDecoder 0 s u := by
  obtain ⟨hpm, hfi, hel, hrs, -, -, -, hparams, -⟩ := h
  exact ⟨fun i hi => hpm i (by simpa using hi), hfi, hel, hrs, hparams⟩

/-- Taking an event off both leaves them as alike as they were. -/
theorem State.SameObservable.withPending {s u : State} (h : s.SameObservable u) (rest : List HostEvent) :
    State.SameObservable { s with pending := rest } { u with pending := rest } := by
  obtain ⟨hpm, hfi, hel, hrs, htake, hmode, hstrap, hparams, henv, htrace, -⟩ := h
  exact ⟨hpm, hfi, hel, hrs, htake, hmode, hstrap, hparams, henv, htrace, rfl⟩

/-- A byte: what is emitted is the same, and only what is emitted becomes observable. -/
theorem rxStep_sameObservable (b : Byte) {s u : State} (hi : s.DecoderInv) (hiu : u.DecoderInv) (h : s.SameObservable u) :
    (rxStep b s).SameObservable (rxStep b u) := by
  obtain ⟨⟨hpm', hfi', hel', hrs', hparams'⟩, hemit⟩ := rxStep_alike b h.sameDecoder hi
  obtain ⟨-, -, -, -, htake, hmode, hstrap, -, henv, htrace, hpending⟩ := h
  obtain ⟨hmode₁, hstrap₁, -, henv₁, hpending₁⟩ := rxStep_frame b hi
  obtain ⟨hmode₂, hstrap₂, -, henv₂, hpending₂⟩ := rxStep_frame b hiu
  have hlatch : (rxStep b s).hs.takeResult = (rxStep b u).hs.takeResult ∧ (rxStep b s).trace = (rxStep b u).trace := by
    obtain ⟨ht, hv, hst, huv⟩ | ⟨p, ht, hv, hst, huv⟩ := hemit
    · exact ⟨by rw [hst, huv, htake], by rw [ht, hv, htrace]⟩
    · exact ⟨by rw [hst, huv], by rw [ht, hv, htrace]⟩
  exact ⟨fun i hlt => hpm' i (by simpa using hlt), hfi', hel', hrs', hlatch.1, by rw [hmode₁, hmode₂, hmode],
    by rw [hstrap₁, hstrap₂, hstrap], hparams', by rw [henv₁, henv₂, henv], hlatch.2, by rw [hpending₁, hpending₂, hpending]⟩

/-- A TAKE: it returns the same, and leaves both latches empty. -/
theorem takeLatch_sameObservable {s u : State} (h : s.SameObservable u) : (takeLatch s).SameObservable (takeLatch u) := by
  obtain ⟨hpm, hfi, hel, hrs, htake, hmode, hstrap, hparams, henv, htrace, hpending⟩ := h
  exact ⟨hpm, hfi, hel, hrs, rfl, hmode, hstrap, hparams, henv, by rw [takeLatch_trace, takeLatch_trace, htake, htrace], hpending⟩

/-- The environment may be changed on both alike. -/
theorem State.SameObservable.withEnvironment {s u : State} (h : s.SameObservable u) {env env' : Environment} (henv : env = env') :
    (Machine.withEnvironment env s).SameObservable (Machine.withEnvironment env' u) := by
  obtain ⟨hpm, hfi, hel, hrs, htake, hmode, hstrap, hparams, -, htrace, hpending⟩ := h
  exact ⟨hpm, hfi, hel, hrs, htake, hmode, hstrap, hparams, henv, htrace, hpending⟩

theorem dispatchTurn_sameObservable (d : Draws) {s u : State} (h : s.SameObservable u) :
    (dispatchTurn d s).SameObservable (dispatchTurn d u) := by
  have htaken := takeLatch_sameObservable h
  have hsame := h
  obtain ⟨-, -, -, -, htake, -, -, hparams, henv, -⟩ := h
  unfold dispatchTurn
  rw [← htake]
  cases d.channelReady with
  | false => exact hsame
  | true =>
    cases s.hs.takeResult with
    | none => exact htaken
    | some m => exact htaken.withEnvironment (by simp [henv, hparams])

theorem forwardTurn_sameObservable (d : Draws) {s u : State} (h : s.SameObservable u) :
    (forwardTurn d s).SameObservable (forwardTurn d u) := by
  have hsame := h
  obtain ⟨-, -, -, -, -, -, -, hparams, henv, -⟩ := h
  unfold forwardTurn
  cases d.received with
  | none => exact hsame
  | some p => exact hsame.withEnvironment (by simp [henv, hparams])

theorem moveLoop_sameObservable (p : LoopPoint) {s u : State} (h : s.SameObservable u) :
    (moveLoop p s).SameObservable (moveLoop p u) := by
  have hsame := h
  obtain ⟨-, -, -, -, -, -, -, -, henv, -⟩ := h
  exact hsame.withEnvironment (by rw [henv])

theorem indicatorsTurn_sameObservable {s u : State} (h : s.SameObservable u) :
    (indicatorsTurn s).SameObservable (indicatorsTurn u) := by
  have hsame := h
  obtain ⟨-, -, -, -, -, -, -, -, henv, -⟩ := h
  exact hsame.withEnvironment (by rw [henv])

/-- A turn of the main loop: it sees of the block what a TAKE returns (R6). -/
theorem mainLoopTurn_sameObservable (d : Draws) {s u : State} (h : s.SameObservable u) :
    (mainLoopTurn d s).SameObservable (mainLoopTurn d u) := by
  have hloop : s.env.loop = u.env.loop := by
    obtain ⟨-, -, -, -, -, -, -, -, henv, -⟩ := h
    rw [henv]
  unfold mainLoopTurn
  rw [← hloop]
  cases s.env.loop with
  | top => exact moveLoop_sameObservable _ h
  | dispatch => exact moveLoop_sameObservable _ (dispatchTurn_sameObservable d h)
  | forward => exact moveLoop_sameObservable _ (forwardTurn_sameObservable d h)
  | indicators => exact moveLoop_sameObservable _ (indicatorsTurn_sameObservable h)
  | housekeeping => exact moveLoop_sameObservable _ h

/-- A RESET and the boot: nothing of the block is left that could differ. -/
theorem reset_sameObservable {s u : State} (h : s.SameObservable u) :
    (bootEnvironment (resetBlock s)).SameObservable (bootEnvironment (resetBlock u)) := by
  obtain ⟨-, -, -, -, -, -, hstrap, hparams, henv, htrace, hpending⟩ := h
  exact ⟨fun _ _ => rfl, rfl, rfl, rfl, rfl, by simp [hstrap, hparams], hstrap, hparams, by simp [henv],
    by simp [hstrap, hparams, htrace], hpending⟩

/-- Settles O43: the second machine takes the same event in the same persona, and each event keeps the two alike. -/
theorem unobservableStaysUnobserved : Obligations.UnobservableStaysUnobserved := by
  intro s u t hi hiu h ht
  have hmode : s.mode = u.mode := by obtain ⟨-, -, -, -, -, hmode, -⟩ := h; exact hmode
  have hpending : s.pending = u.pending := by obtain ⟨-, -, -, -, -, -, -, -, -, -, hpending⟩ := h; exact hpending
  obtain ⟨hnil, rfl⟩ | ⟨e, rest, hp, hcase⟩ := step_cases ht
  · exact ⟨u, step_of_idle (hpending ▸ hnil), h⟩
  have hpu : u.pending = e :: rest := hpending ▸ hp
  have hfetched := h.withPending rest
  obtain ⟨b, rfl, hm, hif, rfl⟩ | ⟨rfl, hm, rfl⟩ | ⟨rfl, rfl⟩ | ⟨l, rfl, rfl⟩ | ⟨d, rfl, hm, rfl⟩ |
    ⟨hm, hreset, hstrap, rfl⟩ := hcase
  · have hiuf : State.DecoderInv { u with pending := rest } := hiu
    exact ⟨_, (step_rx_of_midi (hmode ▸ hm) hpu).trans (rxByte_of_inv hiuf b), rxStep_sameObservable b hif hiuf hfetched⟩
  · exact ⟨_, step_take_of_midi (hmode ▸ hm) hpu, takeLatch_sameObservable hfetched⟩
  · exact ⟨_, step_reset hpu, reset_sameObservable hfetched⟩
  · obtain ⟨hpm, hfi, hel, hrs, htake, hmode', -, hparams, henv, htrace, -⟩ := h
    exact ⟨_, step_strap hpu, hpm, hfi, hel, hrs, htake, hmode', rfl, hparams, henv, htrace, rfl⟩
  · exact ⟨_, step_mainLoop_of_midi (hmode ▸ hm) hpu, mainLoopTurn_sameObservable d hfetched⟩
  · exact ⟨_, step_of_serial (hmode ▸ hm) hpu hreset hstrap, hfetched⟩

end Sys2Proof.Machine

/-! PROOFS. What each byte does at message start and mid-message (R93 to R102, R110 to R142), as whole next states, and what writes RS (R105). -/

namespace Sys2Proof.Machine

open Sys2Proof.Machine.Expected

/-! ### Lengths and bytes of the instruction classes -/

/-- The channel-voice classes of three bytes (R63, R70). -/
theorem len_typeOf_three (n : BitVec 4) : ∀ h ∈ [0x8#4, 0x9#4, 0xA#4, 0xB#4, 0xE#4], len (typeOf (h ++ n)) = some 3 := by
  revert n; decide

/-- The channel-voice classes of two bytes (R63, R70). -/
theorem len_typeOf_two (n : BitVec 4) : ∀ h ∈ [0xC#4, 0xD#4], len (typeOf (h ++ n)) = some 2 := by
  revert n; decide

theorem encodeOp_oneByte : ∀ ib ∈ oneByte, encodeOp ib.1 = .rx ib.2 ∧ len (typeOf ib.2) = some 1 := by
  decide

theorem encodeOp_realTime : ∀ ib ∈ realTime, encodeOp ib.1 = .rx ib.2 ∧ isRt ib.2 = true := by
  decide

/-! ### Message start -/

section Start

variable {s : State} {i : Instr} {b : Byte} (hi : s.DecoderInv) (hf : s.fi = 0#2) (hb : encodeOp i = .rx b)
include hi hf hb

/-- A fresh status byte of a 2-byte message (R96). -/
theorem exec_starts_two (hlen : len (typeOf b) = some 2) : exec i s = .next (started b 2#2 s) := by
  rw [exec_of_start hb hi hf, rxStart_begin hlen (.inl rfl) hf]; rfl

/-- A fresh status byte of a 3-byte message (R96). -/
theorem exec_starts_three (hlen : len (typeOf b) = some 3) : exec i s = .next (started b 3#2 s) := by
  rw [exec_of_start hb hi hf, rxStart_begin hlen (.inr rfl) hf]; rfl

/-- A status byte without a length (R93). -/
theorem exec_absorbs (hlen : len (typeOf b) = none) (hd : isData b = false) : exec i s = .next (absorbed b s) := by
  rw [exec_of_start hb hi hf, rxStart_absorb hlen (fun h => by simp [hd] at h), absorb_eq]; rfl

/-- A 1-byte message (R94). -/
theorem exec_one (hlen : len (typeOf b) = some 1) :
    exec i s = .next (ended (emitted (packet s b 0x00#8 0x00#8) s)) := by
  rw [exec_of_start hb hi hf, rxStart_one hlen]; rfl

end Start

/-- Settles O8: by the length of each class. -/
theorem statusByteStartsMessage : Obligations.StatusByteStartsMessage := by
  intro s hi hf
  refine ⟨fun n => ?_, exec_starts_two hi hf rfl (by decide), exec_starts_three hi hf rfl (by decide),
    exec_starts_two hi hf rfl (by decide)⟩
  have h3 := len_typeOf_three n
  have h2 := len_typeOf_two n
  exact ⟨exec_starts_three hi hf rfl (h3 _ (by decide)), exec_starts_three hi hf rfl (h3 _ (by decide)),
    exec_starts_three hi hf rfl (h3 _ (by decide)), exec_starts_three hi hf rfl (h3 _ (by decide)),
    exec_starts_two hi hf rfl (h2 _ (by decide)), exec_starts_two hi hf rfl (h2 _ (by decide)),
    exec_starts_three hi hf rfl (h3 _ (by decide))⟩

/-- Settles O10. -/
theorem lengthlessStatusAbsorbed : Obligations.LengthlessStatusAbsorbed := fun _ hi hf =>
  ⟨exec_absorbs hi hf rfl (by decide) (by decide), exec_absorbs hi hf rfl (by decide) (by decide),
   exec_absorbs hi hf rfl (by decide) (by decide), exec_absorbs hi hf rfl (by decide) (by decide),
   exec_absorbs hi hf rfl (by decide) (by decide), exec_absorbs hi hf rfl (by decide) (by decide)⟩

/-- Settles O11: START on a byte of length 1, and the length table over all bytes. -/
theorem oneByteMessageAtStart : Obligations.OneByteMessageAtStart := by
  refine ⟨fun s hi hf ib hib => ?_, by decide, fun r hr => len_typeOf_of_isCv hr⟩
  obtain ⟨hb, hlen⟩ := encodeOp_oneByte ib hib
  exact exec_one hi hf hb hlen

/-! ### Data bytes at message start -/

section RunningStatus

variable {s : State} (d : BitVec 7) (hi : s.DecoderInv) (hf : s.fi = 0#2)
include hi hf

/-- R140 for a running status of a 2-byte type. -/
theorem exec_data_running_two (hr : isCv s.rs = true) (hlen : len (typeOf s.rs) = some 2) :
    exec (.dataByte d) s = .next (ended (emitted (packet s s.rs (0#1 ++ d) 0x00#8) s)) := by
  rw [exec_of_start rfl hi hf, rxStart_running_two hr (isData_byteOfSeven d) hlen]; rfl

/-- R140 for a running status of a 3-byte type. -/
theorem exec_data_running_three (hr : isCv s.rs = true) (hlen : len (typeOf s.rs) = some 3) :
    exec (.dataByte d) s = .next { s with pm := ⟨s.rs, 0#1 ++ d, s.pm.b2⟩, fi := 2#2, el := 3#2 } := by
  rw [exec_of_start rfl hi hf, rxStart_running_three hr (isData_byteOfSeven d) hlen]; rfl

end RunningStatus

/-- Settles O13. -/
theorem runningStatusDataByte : Obligations.RunningStatusDataByte :=
  fun _ d hi hf hr => ⟨exec_data_running_two d hi hf hr, exec_data_running_three d hi hf hr, len_typeOf_of_isCv hr⟩

/-- Settles O14: absorbing writes to EL and RS what INV and the hypothesis say they hold. -/
theorem strayDataByteAbsorbed : Obligations.StrayDataByteAbsorbed := by
  intro s d hi hf hrs
  obtain ⟨hel, -⟩ := (decoderInv_of_fi_zero hf).mp hi
  have hr : ¬ (isCv s.rs = true ∧ isData (byteOfSeven d) = true) := fun h => by
    rw [hrs] at h; exact absurd h.1 (by decide)
  refine ⟨?_, hel⟩
  rw [exec_of_start rfl hi hf, rxStart_absorb (len_typeOf_of_isData (isData_byteOfSeven d)) hr, absorb_eq, writePm_rs, hrs,
    Bool.cond_self, ← hrs, ← hel]
  rfl

/-! ### Mid-message -/

/-- Mid-message an instruction with a byte answers MID's state (R84, R90). -/
theorem exec_of_mid {i : Instr} {b : Byte} {s : State} (hb : encodeOp i = .rx b) (hi : s.DecoderInv) (hf : s.fi ≠ 0#2) :
    exec i s = .next (rxMid b s) := by
  rw [exec_of_encodeOp hb, rxByte_of_inv hi, rxStep_of_mid hf]

theorem exec_realTime_mid {s : State} (hi : s.DecoderInv) (hf : s.fi ≠ 0#2) {ib : Instr × Byte} (hib : ib ∈ realTime) :
    exec ib.1 s = .next (emitted (packet s ib.2 0x00#8 0x00#8) s) := by
  obtain ⟨hb, hrt⟩ := encodeOp_realTime ib hib
  rw [exec_of_mid hb hi hf, rxMid_realTime hrt]; rfl

/-- Settles O12. -/
theorem realTimeMidMessage : Obligations.RealTimeMidMessage := fun _ hi hf _ hib => exec_realTime_mid hi hf hib

/-- Settles O30: the real-time byte leaves the decoder's registers alone, so the next byte goes alike with it and without it. -/
theorem realTimeInterleaves : Obligations.RealTimeInterleaves := by
  intro s j b hi hf hb ib hib
  have hsame : SameDecoder 3 (emitted (packet s ib.2 0x00#8 0x00#8) s) s := sameDecoder_of_eq rfl rfl rfl rfl rfl
  have hi' : (emitted (packet s ib.2 0x00#8 0x00#8) s).DecoderInv := hi.congr rfl rfl rfl rfl rfl
  obtain ⟨⟨hpm, hfi, hel, hrs⟩, more, htrace, htrace', -⟩ := rxStep_of_sameDecoder b hsame hi'
  exact ⟨_, _, _, more, exec_realTime_mid hi hf hib, (exec_of_encodeOp hb _).trans (rxByte_of_inv hi' b),
    (exec_of_encodeOp hb _).trans (rxByte_of_inv hi b), hpm, hfi, hel, hrs, htrace', htrace⟩

/-- The running status that a completed pending message leaves (R101). -/
def completedRs (s : State) : Byte := if isCv s.pm.b0 then s.pm.b0 else rsInvalid

/-- R101 on the data byte of a 2-byte message, as the next state. -/
theorem storeNext_eq_two (b : Byte) {s : State} (hf : s.fi = 1#2) (he : s.el = 2#2) :
    storeNext b s = { ended (emitted (packet s s.pm.b0 b 0x00#8) s) with rs := completedRs s } := by
  rw [storeNext_two hf he]; rfl

/-- R101 on the second data byte of a 3-byte message, as the next state. -/
theorem storeNext_eq_second (b : Byte) {s : State} (hf : s.fi = 2#2) (he : s.el = 3#2) :
    storeNext b s = { ended (emitted (packet s s.pm.b0 s.pm.b1 b) s) with rs := completedRs s } := by
  rw [storeNext_second hf he]; rfl

/-- R102 on the first data byte of a 3-byte message, as the next state. -/
theorem storeNext_eq_first (b : Byte) {s : State} (hf : s.fi = 1#2) (he : s.el = 3#2) :
    storeNext b s = { s with pm := { s.pm with b1 := b }, fi := 2#2 } := by
  rw [storeNext_first hf he]; rfl

/-- Mid-message a data byte is the next byte of the message (R142). -/
theorem exec_data_mid (d : BitVec 7) {s : State} (hi : s.DecoderInv) (hf : s.fi ≠ 0#2) :
    exec (.dataByte d) s = .next (storeNext (0#1 ++ d) s) := by
  rw [exec_of_mid rfl hi hf, rxMid_data (isData_byteOfSeven d)]; rfl

/-- Settles O15: the three shapes of storing a byte, which are the places where INV lets the decoder stand. -/
theorem pendingDataByte : Obligations.PendingDataByte := by
  intro s d hi hf
  rw [exec_data_mid d hi hf]
  refine ⟨fun h1 h2 => congrArg _ (storeNext_eq_two _ h1 h2), fun h1 h2 => congrArg _ (storeNext_eq_second _ h1 h2),
    fun h1 h2 => congrArg _ (storeNext_eq_first _ h1 h2), ?_⟩
  obtain ⟨h1, h2, -⟩ | ⟨h1, h2, -⟩ | ⟨h1, h2, -⟩ := hi.mid hf
  · exact .inl ⟨h1, h2⟩
  · exact .inr (.inr ⟨h1, h2⟩)
  · exact .inr (.inl ⟨h1, h2⟩)

/-- Settles O16: by the policy; an abort leaves message start, from which the byte starts over. -/
theorem midMessageStatusByPolicy : Obligations.MidMessageStatusByPolicy := by
  intro s i b hi hf hb hs hrt
  have hended : (ended s).DecoderInv := endMessage_decoderInv hi.rs_ok
  rw [exec_of_mid hb hi hf, rxMid_status hs hrt, exec_of_start hb hended rfl]
  refine ⟨fun hp => ⟨?_, _, rfl⟩, fun hp => ?_, fun hp => ?_⟩
  · simp only [midStatus, hp]
    rfl
  · simp only [midStatus, hp]
  · simp only [midStatus, hp]
    exact ⟨fun h1 h2 => congrArg _ (storeNext_eq_two b h1 h2), fun h1 h2 => congrArg _ (storeNext_eq_second b h1 h2),
      fun h1 h2 => congrArg _ (storeNext_eq_first b h1 h2)⟩

/-! ### What writes RS (R105) -/

/-- START changes RS only by absorbing a byte without a length (R93, R94, R95). -/
theorem rxStart_rs {b : Byte} {s : State} (hf : s.fi = 0#2) (hne : (rxStart b s).rs ≠ s.rs) :
    s.params.absorbClearsRs = true ∧ len (typeOf b) = none ∧ (rxStart b s).rs = rsInvalid ∧ (rxStart b s).fi = 0#2 ∧
    (rxStart b s).el = 0#2 ∧ (rxStart b s).hs = s.hs ∧ (rxStart b s).trace = s.trace := by
  obtain ⟨hlen, -, h⟩ | ⟨-, h⟩ | ⟨n, -, -, h⟩ | ⟨-, -, -, h⟩ | ⟨-, -, -, h⟩ := rxStart_cases (b := b) hf <;> rw [h] at hne ⊢
  · cases hc : s.params.absorbClearsRs with
    | true => exact ⟨rfl, hlen, by simp [hc], by simp [hf], by simp, by simp, by simp⟩
    | false => exact absurd (by simp [hc]) hne
  · exact absurd rfl hne
  · exact absurd rfl hne
  · exact absurd rfl hne
  · exact absurd rfl hne

/-- Storing a byte changes RS only where it completes the message (R101, R102). -/
theorem storeNext_rs {b : Byte} {s : State} (hi : s.DecoderInv) (hf : s.fi ≠ 0#2) (hne : (storeNext b s).rs ≠ s.rs) :
    (storeNext b s).fi = 0#2 ∧ (∃ p, (storeNext b s).trace = s.trace ++ [.wrote p] ∧ p.data1 = s.pm.b0) ∧
    (storeNext b s).rs = completedRs s := by
  obtain ⟨h1, h2, -⟩ | ⟨h1, h2, -⟩ | ⟨h1, h2, -⟩ := hi.mid hf
  · rw [storeNext_eq_two b h1 h2]
    exact ⟨rfl, ⟨_, rfl, rfl⟩, rfl⟩
  · rw [storeNext_eq_first b h1 h2] at hne
    exact absurd rfl hne
  · rw [storeNext_eq_second b h1 h2]
    exact ⟨rfl, ⟨_, rfl, rfl⟩, rfl⟩

/-- Settles O24: a byte by START, an aborting status byte and storing; TAKE leaves RS, RESET writes it. -/
theorem runningStatusWriters : Obligations.RunningStatusWriters := by
  intro s t i h hne
  cases hop : encodeOp i with
  | take =>
    obtain rfl := eq_take_of_encodeOp hop
    obtain rfl := Host.Outcome.next.inj h
    exact absurd rfl hne
  | reset =>
    obtain rfl := eq_reset_of_encodeOp hop
    obtain rfl := Host.Outcome.next.inj h
    exact .inr (.inr ⟨rfl, rfl⟩)
  | rx b =>
    rw [exec_of_encodeOp hop] at h
    obtain ⟨hi, rfl⟩ := rxByte_eq_next_iff.mp h
    by_cases hf : s.fi = 0#2
    · rw [rxStep_of_start hf] at hne ⊢
      obtain ⟨hc, hlen, hrest⟩ := rxStart_rs hf hne
      exact .inr (.inl ⟨hc, ⟨b, rfl, hlen⟩, hrest⟩)
    rw [rxStep_of_mid hf] at hne ⊢
    obtain ⟨-, h⟩ | ⟨-, -, -, h⟩ | ⟨-, -, -, h⟩ | ⟨-, h⟩ := rxMid_cases b s <;> rw [h] at hne ⊢
    · exact absurd rfl hne
    · obtain ⟨hc, hlen, hrest⟩ := rxStart_rs (s := endMessage s) rfl hne
      exact .inr (.inl ⟨hc, ⟨b, rfl, hlen⟩, hrest⟩)
    · exact absurd rfl hne
    · obtain ⟨hfi, hemit, hrs⟩ := storeNext_rs hi hf hne
      exact .inl ⟨hf, hfi, hemit, hrs⟩

end Sys2Proof.Machine

/-! PROOFS. Whole messages from message start (R73, R74, R82, R95, R101): a status byte, or a running status, and its data bytes. -/

namespace Sys2Proof.Machine

open Sys2Proof.Machine.Expected

/-! ### The status bytes of channel-voice messages -/

/-- The type nibble of a channel-voice byte is its event byte under either policy (R60, R64, R81). -/
theorem eventByte_append_of_isCv (policy : Config.EventCodePolicy) {h n : BitVec 4} (hcv : isCv (h ++ n) = true) :
    eventByte policy (h ++ n) = 0#4 ++ h := by
  revert h n; cases policy <;> decide

/-- The classes of three bytes: type nibble, length, category. -/
theorem threeByteClass (n : BitVec 4) :
    ∀ ih ∈ [(Instr.noteOff n, 0x8#4), (.noteOn n, 0x9#4), (.afterTouchPoly n, 0xA#4), (.controlChange n, 0xB#4), (.pitchBend n, 0xE#4)],
      encodeOp ih.1 = .rx (ih.2 ++ n) ∧ len (typeOf (ih.2 ++ n)) = some 3 ∧ isCv (ih.2 ++ n) = true := by
  revert n; decide

/-- The classes of two bytes: type nibble, length, category. -/
theorem twoByteClass (n : BitVec 4) :
    ∀ ih ∈ [(Instr.programChange n, 0xC#4), (.afterTouchChannel n, 0xD#4)],
      encodeOp ih.1 = .rx (ih.2 ++ n) ∧ len (typeOf (ih.2 ++ n)) = some 2 ∧ isCv (ih.2 ++ n) = true := by
  revert n; decide

/-! ### The data bytes of a started message -/

/-- The state after the first data byte `d` of a 3-byte message of status `b`. -/
def halfway (b d : Byte) (s : State) : State := { s with pm := ⟨b, d, s.pm.b2⟩, fi := 2#2, el := 3#2 }

/-- The state after a message of status `b` completed with the packet `p`: RS is the status or Invalid (R101). -/
def completed (b : Byte) (p : Packet) (s : State) : State :=
  { ended (emitted p s) with rs := if isCv b then b else rsInvalid }

section Started

variable {s : State} {b : Byte} (hi : s.DecoderInv)
include hi

/-- The data byte of a 2-byte message (R101). -/
theorem exec_data_of_started_two (d : BitVec 7) (hlen : len (typeOf b) = some 2) :
    exec (.dataByte d) (started b 2#2 s) = .next (completed b (packet s b (0#1 ++ d) 0x00#8) s) := by
  have hi' : (started b 2#2 s).DecoderInv := decoderInv_of_fi_one (n := 2) rfl (.inl rfl) rfl hlen hi.rs_ok
  rw [exec_data_mid d hi' (show (1#2 : BitVec 2) ≠ 0#2 by decide), storeNext_eq_two _ rfl rfl]; rfl

/-- The first data byte of a 3-byte message (R102). -/
theorem exec_data_of_started_three (d : BitVec 7) (hlen : len (typeOf b) = some 3) :
    exec (.dataByte d) (started b 3#2 s) = .next (halfway b (0#1 ++ d) s) := by
  have hi' : (started b 3#2 s).DecoderInv := decoderInv_of_fi_one (n := 3) rfl (.inr rfl) rfl hlen hi.rs_ok
  rw [exec_data_mid d hi' (show (1#2 : BitVec 2) ≠ 0#2 by decide), storeNext_eq_first _ rfl rfl]; rfl

theorem halfway_decoderInv (d : BitVec 7) (hlen : len (typeOf b) = some 3) : (halfway b (0#1 ++ d) s).DecoderInv :=
  decoderInv_of_fi_two rfl rfl hlen (fun _ => isData_byteOfSeven d) hi.rs_ok

/-- The second data byte of a 3-byte message (R101). -/
theorem exec_data_of_halfway (d1 d2 : BitVec 7) (hlen : len (typeOf b) = some 3) :
    exec (.dataByte d2) (halfway b (0#1 ++ d1) s) = .next (completed b (packet s b (0#1 ++ d1) (0#1 ++ d2)) s) := by
  rw [exec_data_mid d2 (halfway_decoderInv hi d1 hlen) (show (2#2 : BitVec 2) ≠ 0#2 by decide), storeNext_eq_second _ rfl rfl]; rfl

end Started

/-! ### From message start -/

section Whole

variable {s : State} {i : Instr} {b : Byte} (hi : s.DecoderInv) (hf : s.fi = 0#2) (hb : encodeOp i = .rx b)
include hi hf hb

/-- A status byte of a 2-byte message and its data byte. -/
theorem exec_two_bytes (d : BitVec 7) (hlen : len (typeOf b) = some 2) :
    ∃ t, exec i s = .next t ∧ exec (.dataByte d) t = .next (completed b (packet s b (0#1 ++ d) 0x00#8) s) :=
  ⟨_, exec_starts_two hi hf hb hlen, exec_data_of_started_two hi d hlen⟩

/-- A status byte of a 3-byte message and its two data bytes. -/
theorem exec_three_bytes (d1 d2 : BitVec 7) (hlen : len (typeOf b) = some 3) :
    ∃ t u, exec i s = .next t ∧ exec (.dataByte d1) t = .next u ∧
      exec (.dataByte d2) u = .next (completed b (packet s b (0#1 ++ d1) (0#1 ++ d2)) s) :=
  ⟨_, _, exec_starts_three hi hf hb hlen, exec_data_of_started_three hi d1 hlen, exec_data_of_halfway hi d1 d2 hlen⟩

end Whole

/-- A completed channel-voice message, its packet and running status written out. -/
theorem completed_channelVoice {h n : BitVec 4} (s : State) (d1 d2 : Byte) (hcv : isCv (h ++ n) = true) :
    completed (h ++ n) (packet s (h ++ n) d1 d2) s = { ended (emitted ⟨0#4 ++ h, h ++ n, d1, d2⟩ s) with rs := h ++ n } := by
  rw [completed, packet, eventByte_append_of_isCv _ hcv, if_pos hcv]

/-- Settles O26. -/
theorem threeByteMessageAssembles : Obligations.ThreeByteMessageAssembles := by
  intro s n d1 d2 hi hf ih hih
  obtain ⟨hb, hlen, hcv⟩ := threeByteClass n ih hih
  rw [← completed_channelVoice s (0#1 ++ d1) (0#1 ++ d2) hcv]
  exact exec_three_bytes hi hf hb d1 d2 hlen

/-- Settles O27: the further data byte comes at message start under the running status that the message left. -/
theorem twoByteMessageAssembles : Obligations.TwoByteMessageAssembles := by
  intro s n d d' hi hf ih hih
  obtain ⟨hb, hlen, hcv⟩ := twoByteClass n ih hih
  obtain ⟨t, ht, hu⟩ := exec_two_bytes hi hf hb d hlen
  rw [completed_channelVoice s _ _ hcv] at hu
  refine ⟨t, _, ht, hu, rfl, ?_⟩
  rw [exec_data_running_two d' ((decoderInv_of_fi_zero rfl).mpr ⟨rfl, .inr hcv⟩) rfl hcv hlen]
  rw [packet, eventByte_append_of_isCv _ hcv]
  rfl

/-- Settles O28: under a running status the first data byte leaves what a status byte and a data byte leave. -/
theorem runningStatusExpands : Obligations.RunningStatusExpands := by
  intro s d1 d2 hi hf hr hlen
  refine ⟨halfway s.rs (0#1 ++ d1) s, exec_data_running_three d1 hi hf hr hlen, rfl, ?_⟩
  rw [exec_data_of_halfway hi d1 d2 hlen, completed, if_pos hr]
  rfl

/-- A completed system-common message, its packet and running status written out. -/
theorem completed_systemCommon {b cin : Byte} (s : State) (d1 d2 : Byte) (hcv : isCv b = false)
    (hnibble : eventByte .typeNibble b = 0x0F#8) (hcin : eventByte .usbMidiCin b = cin) :
    completed b (packet s b d1 d2) s
      = { ended (emitted ⟨if s.params.eventCodePolicy = .typeNibble then 0x0F#8 else cin, b, d1, d2⟩ s) with rs := rsInvalid } := by
  have hev : eventByte s.params.eventCodePolicy b = if s.params.eventCodePolicy = .typeNibble then 0x0F#8 else cin := by
    cases s.params.eventCodePolicy with
    | typeNibble => rw [hnibble, if_pos rfl]
    | usbMidiCin => rw [hcin, if_neg (by decide)]
  rw [completed, packet, hev, hcv, if_neg Bool.false_ne_true]

/-- Settles O29: a system-common status is no channel-voice status, so completing it leaves RS Invalid. -/
theorem multiByteSystemCommonClearsRunningStatus : Obligations.MultiByteSystemCommonClearsRunningStatus := by
  refine fun s d1 d2 hi hf => ⟨fun ib hib => ?_, ?_⟩
  · have hclass : encodeOp ib.1 = .rx ib.2 ∧ len (typeOf ib.2) = some 2 ∧ isCv ib.2 = false ∧
        eventByte .typeNibble ib.2 = 0x0F#8 ∧ eventByte .usbMidiCin ib.2 = 0x02#8 := by
      revert ib; decide
    obtain ⟨hb, hlen, hcv, hnibble, hcin⟩ := hclass
    rw [← completed_systemCommon s _ _ hcv hnibble hcin]
    exact exec_two_bytes hi hf hb d1 hlen
  · have hsong := completed_systemCommon (b := 0xF2#8) (cin := 0x03#8) s (0#1 ++ d1) (0#1 ++ d2) (by decide) (by decide) (by decide)
    have hlast := exec_three_bytes (i := .songPosition) hi hf rfl d1 d2 (by decide)
    rw [hsong] at hlast
    exact hlast

end Sys2Proof.Machine

/-! PROOFS. The environment (R161 to R167): the turns of the main loop, the activity indicators, and a received NoteOn on its way to
`send_packet`. -/

namespace Sys2Proof.Machine

open Sys2Proof.Config Sys2Proof.Machine.Expected

/-! ### The turns of the main loop -/

section Turns

variable {s : State} (d : Draws)

theorem mainLoopTurn_of_top (h : s.env.loop = .top) :
    mainLoopTurn d s = moveLoop (if d.deviceConfigured then .dispatch else .indicators) s := by
  simp only [mainLoopTurn, h]

theorem mainLoopTurn_of_dispatch (h : s.env.loop = .dispatch) : mainLoopTurn d s = moveLoop .forward (dispatchTurn d s) := by
  simp only [mainLoopTurn, h]

theorem mainLoopTurn_of_forward (h : s.env.loop = .forward) : mainLoopTurn d s = moveLoop .indicators (forwardTurn d s) := by
  simp only [mainLoopTurn, h]

theorem mainLoopTurn_of_indicators (h : s.env.loop = .indicators) :
    mainLoopTurn d s = moveLoop .housekeeping (indicatorsTurn s) := by
  simp only [mainLoopTurn, h]

theorem mainLoopTurn_of_housekeeping (h : s.env.loop = .housekeeping) : mainLoopTurn d s = moveLoop .top s := by
  simp only [mainLoopTurn, h]

/-- A TAKE of an empty latch is observed and changes nothing (R152). -/
theorem takeLatch_of_empty (hv : s.hs.valid = false) : takeLatch s = observe (.took none) s := by
  have hclear : s.hs.clear = s.hs := by rw [Latch.clear, ← hv]
  rw [takeLatch, Latch.takeResult_eq_none.mpr hv, hclear]

/-- A TAKE of a message empties the latch (R152). -/
theorem takeLatch_of_message (hv : s.hs.valid = true) :
    takeLatch s = observe (.took (some s.hs.msg)) { s with hs := s.hs.clear } := by
  rw [takeLatch, Latch.takeResult_eq_some.mpr ⟨hv, rfl⟩]

variable {d}

theorem dispatchTurn_notReady (h : d.channelReady = false) : dispatchTurn d s = s := by
  rw [dispatchTurn, h, if_neg Bool.false_ne_true]

theorem dispatchTurn_empty (h : d.channelReady = true) (hv : s.hs.valid = false) : dispatchTurn d s = takeLatch s := by
  rw [dispatchTurn, if_pos h, Latch.takeResult_eq_none.mpr hv]

theorem dispatchTurn_message (h : d.channelReady = true) (hv : s.hs.valid = true) :
    dispatchTurn d s = armTx (sendPacket s.hs.msg d.sendOk (takeLatch s)) := by
  rw [dispatchTurn, if_pos h, Latch.takeResult_eq_some.mpr ⟨hv, rfl⟩]

end Turns

/-- Settles O44. -/
theorem dispatchSendsTakenMessage : Obligations.DispatchSendsTakenMessage := by
  intro s d rest hm hp hloop
  have hstep : step s = .next (moveLoop .forward (dispatchTurn d { s with pending := rest })) := by
    rw [step_mainLoop_of_midi hm hp, mainLoopTurn_of_dispatch (s := { s with pending := rest }) d hloop]
  rw [hstep]
  refine ⟨fun hready => ?_, fun hready hv => ?_, fun hready hv => ?_⟩
  · rw [dispatchTurn_notReady hready]; rfl
  · rw [dispatchTurn_empty (s := { s with pending := rest }) hready hv,
      takeLatch_of_empty (s := { s with pending := rest }) hv]; rfl
  · rw [dispatchTurn_message (s := { s with pending := rest }) hready hv,
      takeLatch_of_message (s := { s with pending := rest }) hv]; rfl

/-- The payload by the length of its message, under both policies (R165). -/
theorem payload_eq (policy : ForwardPolicy) (p : Packet) :
    payload policy p =
      if policy = .allThree then [p.data1, p.data2, p.data3]
      else if len (typeOf p.data1) = some 1 then [p.data1]
      else if len (typeOf p.data1) = some 2 then [p.data1, p.data2]
      else [p.data1, p.data2, p.data3] := by
  cases policy with
  | allThree => rfl
  | byLength =>
    obtain h | h | h | h := len_eq (typeOf p.data1) <;> simp [payload, forwardLength, h]

/-- Settles O45. -/
theorem forwardWritesPayload : Obligations.ForwardWritesPayload := by
  intro s d rest hm hp hloop
  have hstep : step s = .next (moveLoop .indicators (forwardTurn d { s with pending := rest })) := by
    rw [step_mainLoop_of_midi hm hp, mainLoopTurn_of_forward (s := { s with pending := rest }) d hloop]
  rw [hstep]
  refine ⟨fun hnone => ?_, fun p hsome => ?_⟩
  · rw [forwardTurn, hnone]; rfl
  · rw [forwardTurn, hsome, ← payload_eq]; rfl

/-- Settles O46. -/
theorem mainLoopOrder : Obligations.MainLoopOrder := by
  intro s d rest hm hp
  rw [step_mainLoop_of_midi hm hp]
  refine ⟨fun h => ?_, fun h => ?_, fun h => ?_⟩
  · rw [mainLoopTurn_of_top (s := { s with pending := rest }) d h]; rfl
  · rw [mainLoopTurn_of_indicators (s := { s with pending := rest }) d h]; rfl
  · rw [mainLoopTurn_of_housekeeping (s := { s with pending := rest }) d h]; rfl

/-! ### The indicators -/

/-- `k` turns of INDICATORS take `k` off each counter, down to 0 (R166). -/
theorem indicatorsTurn_iterate (s : State) (k : Nat) :
    (indicatorsTurn^[k] s).env.txCount = s.env.txCount - k ∧ (indicatorsTurn^[k] s).env.rxCount = s.env.rxCount - k := by
  induction k with
  | zero => exact ⟨rfl, rfl⟩
  | succ k ih =>
    obtain ⟨htx, hrx⟩ := ih
    rw [Function.iterate_succ_apply', indicatorsTurn_env, htx, hrx]
    exact ⟨Nat.sub_sub _ k 1, Nat.sub_sub _ k 1⟩

/-- An indicator is on until its counter has been taken off (R167). -/
theorem txOn_iterate (s : State) (k : Nat) : txOn (indicatorsTurn^[k] s) = decide (k < s.env.txCount) := by
  rw [txOn, (indicatorsTurn_iterate s k).1]
  exact decide_eq_decide.mpr Nat.sub_pos_iff_lt

theorem rxOn_iterate (s : State) (k : Nat) : rxOn (indicatorsTurn^[k] s) = decide (k < s.env.rxCount) := by
  rw [rxOn, (indicatorsTurn_iterate s k).2]
  exact decide_eq_decide.mpr Nat.sub_pos_iff_lt

/-- Settles O47: arming sets one counter to TICKS and leaves the other. -/
theorem indicatorsCountDown : Obligations.IndicatorsCountDown := fun s k =>
  ⟨txOn_iterate (armTx s) k, rxOn_iterate (armTx s) k, rxOn_iterate (armRx s) k, txOn_iterate (armRx s) k⟩

/-! ### A received NoteOn -/

/-- A byte that waits in the MIDI persona is run as its instruction (R4). -/
theorem step_rx_exec {s t : State} {i : Instr} {b : Byte} {rest : List HostEvent} (hm : s.mode = .midi)
    (hp : s.pending = .op (.rx b) :: rest) (hb : encodeOp i = .rx b) (h : exec i { s with pending := rest } = .next t) :
    step s = .next t := by
  rw [step_rx_of_midi hm hp, ← exec_of_encodeOp hb, h]

/-- Settles O48: the three bytes assemble, and DISPATCH takes the packet and sends it. -/
theorem receivedNoteIsSent : Obligations.ReceivedNoteIsSent := by
  intro s n d1 d2 d rest hi hf hm hloop hready
  have hlen : len (typeOf (0x9#4 ++ n)) = some 3 := len_typeOf_three n _ (by decide)
  have hcv : isCv (0x9#4 ++ n) = true := by revert n; decide
  have hwait : ∀ es, (withEvents es s).DecoderInv := fun _ => hi
  have h1 := exec_starts_three (i := .noteOn n) (hwait (.op (.rx (0#1 ++ d1)) :: .op (.rx (0#1 ++ d2)) :: .mainLoop d :: rest)) hf rfl hlen
  have h2 := exec_data_of_started_three (hwait (.op (.rx (0#1 ++ d2)) :: .mainLoop d :: rest)) d1 hlen
  have h3 := exec_data_of_halfway (hwait (.mainLoop d :: rest)) d1 d2 hlen
  rw [completed_channelVoice _ _ _ hcv] at h3
  obtain ⟨-, -, hsend⟩ := dispatchSendsTakenMessage
    { ended (emitted ⟨0#4 ++ 0x9#4, 0x9#4 ++ n, 0#1 ++ d1, 0#1 ++ d2⟩ (withEvents (.mainLoop d :: rest) s)) with rs := 0x9#4 ++ n }
    d rest hm rfl hloop
  exact ⟨_, _, _, _, step_rx_exec hm rfl rfl h1, step_rx_exec hm rfl rfl h2, step_rx_exec hm rfl rfl h3, hsend hready rfl,
    rfl, rfl, rfl, rfl, rfl, rfl⟩

end Sys2Proof.Machine

/-! PROOFS. Facts about single bytes (R60 to R65, R70, R81), the 32-bit view of a packet (R43), and the equations of a refused byte, of TAKE and
of RESET. -/

namespace Sys2Proof.Machine

/-! ### Bytes and the opcode table -/

/-- Settles O1. -/
theorem writtenWordsDecode : Obligations.WrittenWordsDecode := by
  unfold Obligations.WrittenWordsDecode
  decide

/-- Every instruction's encoding belongs to its own row and to no other, by the lemma of its constructor. -/
theorem encodedRow (i : Instr) : Laws.EncodedRow.Statement i := by
  cases i with
  | noteOff n => exact Laws.EncodedRow.noteOff n
  | noteOn n => exact Laws.EncodedRow.noteOn n
  | afterTouchPoly n => exact Laws.EncodedRow.afterTouchPoly n
  | controlChange n => exact Laws.EncodedRow.controlChange n
  | programChange n => exact Laws.EncodedRow.programChange n
  | afterTouchChannel n => exact Laws.EncodedRow.afterTouchChannel n
  | pitchBend n => exact Laws.EncodedRow.pitchBend n
  | systemExclusive => exact Laws.EncodedRow.systemExclusive
  | timeCodeQuarterFrame => exact Laws.EncodedRow.timeCodeQuarterFrame
  | songPosition => exact Laws.EncodedRow.songPosition
  | songSelect => exact Laws.EncodedRow.songSelect
  | undefinedF4 => exact Laws.EncodedRow.undefinedF4
  | undefinedF5 => exact Laws.EncodedRow.undefinedF5
  | tuneRequest => exact Laws.EncodedRow.tuneRequest
  | undefinedF7 => exact Laws.EncodedRow.undefinedF7
  | clock => exact Laws.EncodedRow.clock
  | undefinedF9 => exact Laws.EncodedRow.undefinedF9
  | start => exact Laws.EncodedRow.start
  | continueMsg => exact Laws.EncodedRow.continueMsg
  | stop => exact Laws.EncodedRow.stop
  | undefinedFD => exact Laws.EncodedRow.undefinedFD
  | activeSensing => exact Laws.EncodedRow.activeSensing
  | systemReset => exact Laws.EncodedRow.systemReset
  | dataByte d => exact Laws.EncodedRow.dataByte d
  | take => exact Laws.EncodedRow.take
  | reset => exact Laws.EncodedRow.reset

/-- Settles O3: a byte is the encoding of the instruction it decodes to. -/
theorem everyByteMatchesOneRow : Obligations.EveryByteMatchesOneRow := by
  intro b
  rw [← encodeOp_decodeByte b]
  exact encodedRow (decodeByte b)

/-- Settles O4, over the 256 bytes and the rows each may match. -/
theorem classifierFollowsOpcodeTable : Obligations.ClassifierFollowsOpcodeTable := by
  unfold Obligations.ClassifierFollowsOpcodeTable
  decide

/-- Settles O5, over the 256 bytes. -/
theorem predicatesMatchCategories : Obligations.PredicatesMatchCategories := by
  unfold Obligations.PredicatesMatchCategories
  decide

/-- Settles O6, over the 256 bytes. -/
theorem eventByteUnderBothPolicies : Obligations.EventByteUnderBothPolicies := by
  unfold Obligations.EventByteUnderBothPolicies
  decide

/-! ### The 32-bit view of a packet (R43) -/

/-- Byte `k` of a byte shifted to place `j` of a 32-bit word. -/
theorem byte_of_shifted (x : Byte) (j : Nat) {k : Nat} (hk : k < 4) :
    (x.setWidth 32 <<< (8 * j)).extractLsb' (8 * k) 8 = if j = k then x else 0#8 := by
  ext i hi
  have hbit : ((x.setWidth 32 <<< (8 * j)).extractLsb' (8 * k) 8)[i]
      = (!decide (8 * k + i < 8 * j) && x.getLsbD (8 * k + i - 8 * j)) := by
    simp [show 8 * k + i < 32 by omega]
  rw [hbit]
  obtain hlt | rfl | hgt := Nat.lt_trichotomy j k
  · rw [if_neg hlt.ne, BitVec.getLsbD_of_ge x _ (by omega)]; simp
  · simp [hi]
  · rw [if_neg hgt.ne', decide_eq_true (by omega)]; simp

/-- The view's four shifts, each by a multiple of eight. -/
theorem packetWord32_eq_shifts (p : Packet) : packetWord32 p =
    p.event.setWidth 32 <<< (8 * 0) ||| p.data1.setWidth 32 <<< (8 * 1) |||
    p.data2.setWidth 32 <<< (8 * 2) ||| p.data3.setWidth 32 <<< (8 * 3) := by
  simp [packetWord32]

/-- Byte `k` of the view is byte `k` of the packet: of the four shifts only the one to place `k` reaches it. -/
theorem extractLsb'_packetWord32 (p : Packet) (k : Fin 4) :
    some ((packetWord32 p).extractLsb' (8 * k.val) 8) = (packetBytes p)[k.val]? := by
  rw [packetWord32_eq_shifts]
  simp only [BitVec.extractLsb'_or, byte_of_shifted _ _ k.isLt]
  fin_cases k <;> simp [packetBytes]

/-- Settles O7: the view is read back byte by byte. -/
theorem packetOn32BitPort : Obligations.PacketOn32BitPort := by
  refine ⟨extractLsb'_packetWord32, fun p => ?_⟩
  have hevent : (packetWord32 p).extractLsb' 0 8 = p.event := Option.some.inj (extractLsb'_packetWord32 p 0)
  have hdata1 : (packetWord32 p).extractLsb' 8 8 = p.data1 := Option.some.inj (extractLsb'_packetWord32 p 1)
  have hdata2 : (packetWord32 p).extractLsb' 16 8 = p.data2 := Option.some.inj (extractLsb'_packetWord32 p 2)
  have hdata3 : (packetWord32 p).extractLsb' 24 8 = p.data3 := Option.some.inj (extractLsb'_packetWord32 p 3)
  rw [packetOfWord32, hevent, hdata1, hdata2, hdata3]

/-! ### A refused byte, TAKE and RESET -/

/-- Settles O17: RX_BYTE asks for INV and for nothing else (R24, R182). -/
theorem byteRefusedExactlyOutsideInv : Obligations.ByteRefusedExactlyOutsideInv := by
  intro s i b hb
  rw [exec_of_encodeOp hb]
  refine ⟨fun h hi => ?_, fun hi => rxByte_refused hi b⟩
  rw [rxByte_of_inv hi] at h
  cases h

/-- Settles O19: TAKE writes HS.valid and the observation (R50). -/
theorem takeIsAtomicExchange : Obligations.TakeIsAtomicExchange := fun _ => rfl

/-- Settles O20: the first TAKE leaves the latch empty. -/
theorem secondTakeReturnsEmpty : Obligations.SecondTakeReturnsEmpty := fun s =>
  ⟨takeLatch s, takeLatch (takeLatch s), rfl, rfl, by rw [takeLatch_trace (takeLatch s), takeLatch_hs, Latch.takeResult_clear],
    rfl⟩

/-- Settles O21: RESET writes every register of the block, MODE by the sampled strap (R200). -/
theorem resetPutsBlockInResetState : Obligations.ResetPutsBlockInResetState := fun _ => rfl

end Sys2Proof.Machine
